-- ==== Sys2Proof/Word.lean ====
section
/-! DEFINITION. The word types of the ZE96: what the manual itself treats as bits. -/

namespace Sys2Proof

/-- One byte of a control line frame (R176). -/
abbrev Byte := BitVec 8

/-- One 16-bit linear sample in two's complement, −32768..32767, as a highway timeslot carries it (R32).
Coefficients (R49) have the same form. -/
abbrev Sample := BitVec 16

/-- A circuit identity, 0..65535 (R3, R10). -/
abbrev Identity := BitVec 16

/-- A position of the highways, line × 32 + slot, 0..127 (R33). -/
abbrev Position := Fin 128

/-- A profile number, 0..7 (R162). -/
abbrev ProfileNumber := Fin 8

/-- A route rule number, 0..7 (R168). -/
abbrev RuleNumber := Fin 8

end Sys2Proof
end

