-- ==== Sys2Proof/Syntax.lean ====
section
/-! DEFINITION. The commands and events of the ZE96, one constructor for each row of spec/opcode_table.json.
Operands of control line commands are the raw field values of R10, R164 and R180, so that a value outside an
encoding can be written down and is refused by the command's own checks. -/

namespace Sys2Proof

/-- What the reset pin does in a RESET: it is held, or it is released (R176, R183). -/
inductive ResetPin where
  | held
  | released
  deriving DecidableEq, Repr

/-- The levels of the four address pins and of the RATE pin (R176). -/
structure StrapPins where
  address : BitVec 4
  rate : Bool
  deriving DecidableEq, Repr

/-- One step of the block: an event at its pins, one of its own internal transitions, or a command taken by its
Control Line Port. -/
inductive Instr where
  /-- RESET (R175): power-up or external reset, as far as the reset pin being held (R183), or as far as its release, at
  which the address and RATE pins are sampled (R176). -/
  | reset (pin : ResetPin) (straps : StrapPins)
  /-- FRAME_SYNC (R36): one frame, with the 128 trunk-in and the 128 exchange-in samples by position (R32, R33). -/
  | frameSync (trunkIn exchangeIn : List Sample)
  /-- BLOCK_END (R34): the block-end work that follows a phase-63 frame. -/
  | blockEnd
  /-- PROMOTION (R84) of the record named. -/
  | promotion (identity : Identity)
  /-- PATH_CHANGE (R85) of the record named. -/
  | pathChange (identity : Identity)
  /-- ENTRY_TO_BYPASS (R153) of the record named. -/
  | entryToBypass (identity : Identity)
  /-- RETURN_FROM_BYPASS (R154) of the record named. -/
  | returnFromBypass (identity : Identity)
  /-- IDLE_LAPSE (R157) of the record named. -/
  | idleLapse (identity : Identity)
  /-- SEARCH_COMPLETE (R103) of the record named. -/
  | searchComplete (identity : Identity)
  /-- SEARCH_TIMEOUT (R110) of the record named. -/
  | searchTimeout (identity : Identity)
  /-- STORE_COMPLETE (R173): the store write ends; `verified` is the outcome of reading it back. -/
  | storeComplete (verified : Bool)
  /-- COMMAND_FRAME_RECEIVED (R177): the characters heard, in order, with no gap over 2 ms and no character fault
  among them; as a rule one whole frame from its sync byte to its check byte. -/
  | commandFrameReceived (bytes : List Byte)
  /-- INTER_BYTE_GAP (R177): the characters `heard` since the last line event, then more than 2 ms of silence, then
  the byte `next` that ends the gap. -/
  | interByteGap (heard : List Byte) (next : Byte)
  /-- OVERRUN (R178): a sync byte arrives while the unit is busy, followed by the bytes `rest` of its frame. -/
  | overrun (rest : List Byte)
  /-- REPLY_SENT (R178): the last byte of the reply is sent. -/
  | replySent
  /-- ATTACH (R11): identity, position, profile and mode. -/
  | attach (identity : Identity) (position profile mode : Byte)
  /-- DETACH (R16). -/
  | detach (identity : Identity)
  /-- MODIFY (R18): identity, mode, freeze, profile, pad overrides and gain reset. -/
  | modify (identity : Identity) (mode freeze profile : Byte) (padIn padOut : BitVec 16) (gainReset : Byte)
  /-- REBIND (R23). -/
  | rebind (identity : Identity) (position : Byte)
  /-- MOVE_LINE (R25). -/
  | moveLine (fromLine toLine : Byte)
  /-- RESEARCH (R26). -/
  | research (identity : Identity) (lane : Byte)
  /-- LOOK (R27). -/
  | look (identity : Identity)
  /-- LOOK_WINDOW (R28). -/
  | lookWindow (identity : Identity) (index : Byte)
  /-- FIND (R29). -/
  | find (position : Byte)
  /-- LIST (R30): state set, alarm set and start identity. -/
  | list (states alarms : Byte) (start : Identity)
  /-- ACK_ALARMS (R31). -/
  | ackAlarms (identity : Identity) (alarms : Byte)
  /-- PROFILE_READ (R165). -/
  | profileRead (number : Byte)
  /-- PROFILE_WRITE (R166): a profile number and a profile in the 36-byte layout of R164. -/
  | profileWrite (number : Byte) (layout : List Byte)
  /-- RULE_READ (R169). -/
  | ruleRead (number : Byte)
  /-- RULE_WRITE (R170): rule number, enabled flag, base, mask, profile and mode. -/
  | ruleWrite (number enabled : Byte) (base mask : BitVec 16) (profile mode : Byte)
  /-- RULE_ENABLE (R169). -/
  | ruleEnable (number setting : Byte)
  /-- STORE (R172). -/
  | store
  /-- LOAD (R174). -/
  | load
  /-- EVENTS (R182). -/
  | events
  /-- ACK_EVENTS (R182). -/
  | ackEvents (kinds : Byte)
  /-- SET_MASK (R182). -/
  | setMask (kinds : Byte)
  /-- TALLY (R185): selector, identity and clear flag. -/
  | tally (selector : Byte) (identity : Identity) (clear : Byte)
  /-- IDENT (R186). -/
  | ident
  /-- RESTART (R187). -/
  | restart
  /-- CHARACTER_FAULT (R177): the characters `heard` since the last line event, then one whose stop bit is missing. -/
  | characterFault (heard : List Byte)
  /-- POWER_LOSS (R173). -/
  | powerLoss
  deriving DecidableEq, Repr

end Sys2Proof
end

