-- ==== Sys2Proof/Machine/Data.lean ====
section
/-! DEFINITION. The data the ZE96 keeps: record states, alarms, events, profiles, route rules, windows, block working
values, circuit records, search slots, the settings store and the control line port. Plain data only. -/

namespace Sys2Proof.Machine

/-- The five record states (R3, section 1.3). -/
inductive RecordState where
  | settling | converged | bypass | transparent | lapsed
  deriving DecidableEq, Repr, Inhabited

/-- What a BYPASS record returns to (R153). -/
inductive ResumeState where
  | settling | converged
  deriving DecidableEq, Repr

/-- The talk states (R72). -/
inductive TalkState where
  | idle | far | near | double
  deriving DecidableEq, Repr

/-- The two modes given at creation (R10, R13). -/
inductive Mode where
  | cancel | transparent
  deriving DecidableEq, Repr, Inhabited

/-- The two request lanes (R95). -/
inductive Lane where
  | ordinary | priority
  deriving DecidableEq, Repr

/-- Where a record stands in the search unit (R95). -/
inductive SearchStatus where
  | noSearch | waitingPriority | waitingOrdinary | running
  deriving DecidableEq, Repr

/-- The last search result (R3, R109, R110). -/
inductive SearchResult where
  | noResult | placed | noEcho | inconclusive
  deriving DecidableEq, Repr

/-- The record alarm kinds (R8). -/
inductive Alarm where
  | diverged | echoStrong | inputClip | windowShort
  deriving DecidableEq, Repr

/-- The part-level event kinds (R181). -/
inductive EventKind where
  | restarted | storeBad | storeDone | storeFailed | recordAlarm | lapse | tableFull | lineFault
  deriving DecidableEq, Repr

/-- The reply indications (R10). -/
inductive Indication where
  | lapsedReplaced | wasLapsed | windowShort | alreadySearching
  deriving DecidableEq, Repr

/-- The reply status codes (R180). -/
inductive Status where
  | ok | accepted | clamped | noRecord | duplicateCircuit | slotTaken | tableFull | badPosition | badProfile
  | badField | wrongState | recordLapsed | profileInUse | ruleEnabled | recordsLive | busy | storeWorn | lineOccupied
  | unknownCommand | badLength
  deriving DecidableEq, Repr

/-- A record's alarm set (R8), one bit per kind in the places of R10. -/
abbrev AlarmSet := BitVec 4

/-- A set of event kinds (R181), one bit per kind, as it is sent. -/
abbrev EventSet := BitVec 8

/-- The settings of one profile (R162): 23 fields, the letters of the manual in the comments. -/
structure Profile where
  searchOn : Bool
  provisionalOffset : Nat
  windowLimit : Nat
  /-- s -/
  stepExponent : Nat
  regularisation : Nat
  /-- F -/
  referenceFloor : Nat
  /-- S -/
  speechFloor : Nat
  /-- d -/
  doubleTalkShift : Nat
  /-- H -/
  nearHold : Nat
  suppressorOn : Bool
  /-- q -/
  suppressionDepth : Nat
  comfortFillOn : Bool
  padIn : Nat
  padOut : Nat
  alcIn : Bool
  alcOut : Bool
  bandLow : Nat
  bandHigh : Nat
  gmin : Nat
  gmax : Nat
  toneBypassOn : Bool
  toneFloor : Nat
  /-- in seconds; 0 = off -/
  idleLimit : Nat
  deriving DecidableEq, Repr, Inhabited

/-- A route rule (R168). -/
structure RouteRule where
  enabled : Bool
  base : BitVec 16
  mask : BitVec 16
  profile : ProfileNumber
  mode : Mode
  deriving DecidableEq, Repr, Inhabited

/-- Eight profiles and eight route rules: the working copies, a snapshot, or the store's contents (R162, R168, R171). -/
structure Settings where
  profiles : Vector Profile 8
  rules : Vector RouteRule 8
  deriving DecidableEq, Repr, Inhabited

/-- A held window (R49): its offset and its 64 coefficients, tap 0 first. -/
structure Window where
  offset : Nat
  coefficients : List Sample
  deriving DecidableEq, Repr

/-- A record's seven tallies (R5). -/
structure Tallies where
  convergedBlocks : Nat := 0
  doubleTalkBlocks : Nat := 0
  suppressedBlocks : Nat := 0
  clipBlocks : Nat := 0
  searchesCompleted : Nat := 0
  pathChanges : Nat := 0
  divergences : Nat := 0
  deriving DecidableEq, Repr

/-- The five part tallies (R184). -/
structure PartTallies where
  attachRefusals : Nat := 0
  lineFaults : Nat := 0
  overruns : Nat := 0
  inconclusiveSearches : Nat := 0
  grants : Nat := 0
  deriving DecidableEq, Repr

/-- A record's block working values: what the frames of the current block have left (R45). -/
structure BlockValues where
  /-- live frame count (R45) -/
  live : Nat := 0
  /-- clip flag (R46) -/
  clip : Bool := false
  /-- the four talk counts (R75) -/
  idleFrames : Nat := 0
  farFrames : Nat := 0
  nearFrames : Nat := 0
  doubleFrames : Nat := 0
  /-- Ey, Ee, Ex and the supervised frame count (R80) -/
  energyIn : Nat := 0
  energyResidual : Nat := 0
  energyOut : Nat := 0
  supervised : Nat := 0
  /-- suppression flag (R134) -/
  suppressed : Bool := false
  /-- Σ|Xin| (R135) and Σ|Tin| (R150) -/
  sumXin : Nat := 0
  sumTin : Nat := 0
  /-- sign-change counts (R150) -/
  changesTin : Nat := 0
  changesXin : Nat := 0
  /-- incoming and outgoing level sums (R138) -/
  levelIn : Nat := 0
  levelOut : Nat := 0
  /-- the sample before the coming frame's on each path, for the sign changes (R150) -/
  previousTin : Sample := 0
  previousXin : Sample := 0
  /-- the MODEL's own: the idle count rose at the block end under way (R156); unmarked between block ends -/
  idleRose : Bool := false
  deriving DecidableEq, Repr

/-- A circuit record (R3). Its search status is the view `State.searchStatus` of the lanes and slots (R95); an
unplaced list that would be empty is absent (R4), so the empty list stands for absence. -/
structure Record where
  identity : Identity
  position : Position
  profile : ProfileNumber
  state : RecordState
  resume : Option ResumeState
  freeze : Bool
  held : List Window
  unplaced : List Nat
  /-- the last 1024 exchange-out samples, newest first (R42) -/
  history : List Sample
  talk : TalkState
  nearHold : Nat
  gainIn : Nat
  gainOut : Nat
  padIn : Option Nat
  padOut : Option Nat
  /-- B -/
  background : Nat
  noise : BitVec 16
  passCount : Nat
  failCount : Nat
  toneCount : Nat
  quietCount : Nat
  idleCount : Nat
  lastResult : SearchResult
  alarms : AlarmSet
  tallies : Tallies
  block : BlockValues
  /-- the last sample of each path at the end of the last whole block (R45) -/
  lastTin : Sample
  lastXin : Sample
  deriving DecidableEq, Repr

/-- An occupied search slot (R96). A free slot holds nothing; the slots are alike, so the occupied ones are a list. -/
structure Slot where
  identity : Identity
  /-- the accumulators c(0)..c(1023) -/
  correlation : List Int
  /-- Sx -/
  referenceSum : Nat
  qualifying : Nat
  elapsed : Nat
  deriving DecidableEq, Repr

/-- The Settings Store (R171) and the STORE in flight with its snapshot (R172). While there is one, `contents` holds the
contents before the write (DESIGN CHOICE, notes/assumptions/22.md). -/
structure Store where
  contents : Settings
  valid : Bool
  wear : Nat
  inFlight : Option Settings
  deriving DecidableEq, Repr

/-- What the port's receive side is doing (R177, R178), with the bytes of the frame so far, sync byte first. -/
inductive Hearing where
  | hunting
  | assembling (bytes : List Byte)
  /-- a frame whose sync byte arrived while the unit was busy -/
  | discarding (bytes : List Byte)
  deriving DecidableEq, Repr

/-- The control line rate sampled at reset (R176). -/
inductive LineRate where
  | baud19200 | baud115200
  deriving DecidableEq, Repr

/-- The Control Line Port (R176 to R178). `reply` is the reply frame being sent; the unit is busy while there is one. -/
structure Port where
  hearing : Hearing
  reply : Option (List Byte)
  address : BitVec 4
  rate : LineRate
  deriving DecidableEq, Repr

end Sys2Proof.Machine
end

