-- ==== Sys2Proof/Machine/Arith.lean ====
section
/-! DEFINITION. The arithmetic conventions of section 2.3. `/` on `Int` by a positive divisor is floor division, and
`Int.tdiv` discards the fraction toward zero. -/

namespace Sys2Proof.Machine

/-- Saturation into −32768..32767 (R37). -/
def saturateInt (v : Int) : Int :=
  if v < -32768 then -32768 else if 32767 < v then 32767 else v

/-- A saturated value as the sample that the next stage reads (R37). -/
def saturate (v : Int) : Sample := BitVec.ofInt 16 (saturateInt v)

/-- The clamp into lo..hi (R37). -/
def clampNat (lo hi v : Nat) : Nat :=
  if v < lo then lo else if hi < v then hi else v

/-- The magnitude of a sample; that of −32768 is 32768 (R37). -/
def magnitude (v : Sample) : Nat := v.toInt.natAbs

/-- The square of a sample, as the energies take it in (R80). -/
def square (v : Sample) : Nat := magnitude v * magnitude v

/-- "round": the product of a sample with a Q4.12 multiplier, halves toward plus infinity (R38). -/
def roundQ (product : Int) : Int := (product + 2048) / 4096

/-- Estimate rounding (R38). -/
def roundEstimate (sum : Int) : Int := (sum + 16384) / 32768

/-- One pad or gain stage of a chain: rounded, then saturated (R41, R44). -/
def scaleQ (v : Sample) (multiplier : Nat) : Sample := saturate (roundQ (v.toInt * (multiplier : Int)))

/-- Truncation of a quotient toward zero (R39). -/
def truncate (numerator divisor : Int) : Int := Int.tdiv numerator divisor

/-- Shift right by 8: floor division by 256 (R39). -/
def shiftRight8 (v : Sample) : Int := v.toInt / 256

/-- The mean magnitude of a path over a block, from its sum of magnitudes (R39). -/
def meanMagnitude (sum : Nat) : Nat := sum / 64

/-- The reference sample at a lag (R42). -/
def lag (history : List Sample) (j : Nat) : Sample := history.getD j 0

/-- The largest magnitude among some samples; 0 for none (R69, R70). -/
def largestMagnitude (samples : List Sample) : Nat := samples.foldl (fun m v => max m (magnitude v)) 0

/-- A 16-bit count goes up by one and stops at 65535 (R5, R184). -/
def countUp (n : Nat) : Nat := min 65535 (n + 1)

/-- Whether two consecutive samples of a path differ in sign, a sample of 0 or more being positive (R150). -/
def signChanges (before now : Sample) : Bool := (decide (before.toInt < 0)) != (decide (now.toInt < 0))

end Sys2Proof.Machine
end

