-- ==== Sys2Proof/Config.lean ====
section
/-! DEFINITION. The values the manual leaves open. -/

namespace Sys2Proof.Config

open Sys2Proof.Machine

/-- FREE VALUE (notes/assumptions/5.md): what the settings store's profiles and rules hold after a write that was cut
short or that failed its verification (R173). It may depend on which write it was, on the contents before it and on the
snapshot. Nothing is known of it. -/
opaque tornContents : Nat → Settings → Settings → Settings

end Sys2Proof.Config
end

