-- ==== Sys2Proof/Machine/State.lean ====
section
/-! DEFINITION. The state of the ZE96 and its value after reset. -/

namespace Sys2Proof.Machine

/-- Reasons for a fault: none. The manual describes no condition in which the part stops, and every command of the
table has a next state in every state, so no command raises one. -/
inductive Fault where
  deriving DecidableEq, Repr

/-- Reasons for a refusal. -/
inductive Refusal where
  /-- Raised by an arm of `exec` whose command has no meaning yet; no arm raises it. Safe: nothing runs. -/
  | notModelled (mnemonic : String)
  deriving DecidableEq, Repr

/-- The whole part, and the queue of steps that are waiting, first in first out. -/
structure State where
  /-- supply present (R173; notes/assumptions/6.md) -/
  powered : Bool
  /-- the reset pin is held (R183; notes/assumptions/17.md) -/
  resetHeld : Bool
  /-- the frame counter: the block phase of the last frame taken (R34; notes/assumptions/18.md) -/
  phase : Fin 64
  /-- a phase-63 frame's work is done and its block-end work is not (R34; notes/assumptions/2.md) -/
  blockEndDue : Bool
  /-- the samples on trunk-out and exchange-out in the present frame, by position (R32) -/
  trunkOut : List Sample
  exchangeOut : List Sample
  /-- the samples computed in the present frame, which the next frame sends (R32) -/
  nextTrunkOut : List Sample
  nextExchangeOut : List Sample
  /-- the Circuit Record Table (R1) -/
  records : List Record
  /-- the lanes, oldest entry first, and the occupied search slots (R95, R96) -/
  priorityLane : List Identity
  ordinaryLane : List Identity
  slots : List Slot
  /-- the pool's free count (R118) and waiting list, oldest entry first (R119) -/
  free : Nat
  waiting : List Identity
  /-- the working profiles and rules (R162, R168) and the reference counts (R163) -/
  settings : Settings
  refCounts : Vector Nat 8
  /-- the Settings Store (R171) -/
  store : Store
  /-- the Event Latch: summary, mask (R181) and part tallies (R184) -/
  summary : EventSet
  mask : EventSet
  part : PartTallies
  /-- the Control Line Port (R176 to R178) -/
  port : Port
  /-- the MODEL's own: how many free values have been used (notes/assumptions/5.md) -/
  freeIndex : Nat
  /-- the MODEL's own: the steps that wait to be taken, first in first out -/
  pending : List Instr
  deriving DecidableEq, Repr

/-- The factory values of a profile (R162). -/
def factoryProfile : Profile where
  searchOn := true
  provisionalOffset := 0
  windowLimit := 3
  stepExponent := 4
  regularisation := 256
  referenceFloor := 32
  speechFloor := 96
  doubleTalkShift := 1
  nearHold := 240
  suppressorOn := true
  suppressionDepth := 2
  comfortFillOn := true
  padIn := 4096
  padOut := 4096
  alcIn := true
  alcOut := true
  bandLow := 1200
  bandHigh := 2400
  gmin := 2048
  gmax := 8192
  toneBypassOn := true
  toneFloor := 256
  idleLimit := 0

/-- The factory value of a route rule (R174). -/
def factoryRule : RouteRule where
  enabled := false
  base := 0
  mask := 0
  profile := 0
  mode := .cancel

/-- The factory settings (R174). -/
def factorySettings : Settings where
  profiles := Vector.replicate 8 factoryProfile
  rules := Vector.replicate 8 factoryRule

/-- A highway frame of zeros, as both output highways carry in the first frame after reset (R32). -/
def silentHighway : List Sample := List.replicate 128 0

/-- The part right after power-up reset (R2, R32, R34, R116, R118, R175, R176, R181, R184). DESIGN CHOICE
(notes/assumptions/4.md): a part whose store has never completed a write (R171), with address pins 0 and RATE low, and
(notes/assumptions/18.md) the frame counter at 63, from which the first frame takes phase 0; and
(notes/assumptions/21.md) 0 in every timeslot of the output highways before the first frame sync. -/
def State.reset : State where
  powered := true
  resetHeld := false
  phase := 63
  blockEndDue := false
  trunkOut := silentHighway
  exchangeOut := silentHighway
  nextTrunkOut := silentHighway
  nextExchangeOut := silentHighway
  records := []
  priorityLane := []
  ordinaryLane := []
  slots := []
  free := 144
  waiting := []
  settings := factorySettings
  refCounts := Vector.replicate 8 0
  store := { contents := factorySettings, valid := false, wear := 0, inFlight := none }
  summary := 0x03
  mask := 0xFF
  part := {}
  port := { hearing := .hunting, reply := none, address := 0, rate := .baud19200 }
  freeIndex := 0
  pending := []

end Sys2Proof.Machine
end

