-- ==== Sys2Proof/Machine/Flags.lean ====
section
/-! DEFINITION. The sets of kinds: record alarms, the event summary and mask, the attention line, and the flag bytes of
R10 and R181. -/

namespace Sys2Proof.Machine

/-- The place of an alarm kind in the alarm set (R10). -/
def Alarm.flag : Alarm → AlarmSet
  | .diverged => 0x1
  | .echoStrong => 0x2
  | .inputClip => 0x4
  | .windowShort => 0x8

/-- The place of an event kind in the summary and the mask (R181). -/
def EventKind.flag : EventKind → EventSet
  | .restarted => 0x01
  | .storeBad => 0x02
  | .storeDone => 0x04
  | .storeFailed => 0x08
  | .recordAlarm => 0x10
  | .lapse => 0x20
  | .tableFull => 0x40
  | .lineFault => 0x80

/-- The place of an indication in a reply's indication set (R10). -/
def Indication.flag : Indication → Byte
  | .lapsedReplaced => 0x01
  | .wasLapsed => 0x02
  | .windowShort => 0x04
  | .alreadySearching => 0x08

/-- An indication set with the one kind in it when the condition holds, and empty otherwise. -/
def indicateIf (c : Bool) (i : Indication) : Byte := if c then i.flag else 0

/-- Whether the alarm set holds a kind (R8). -/
def holdsAlarm (set : AlarmSet) (k : Alarm) : Bool := set &&& k.flag != 0

/-- To raise a kind is to add it to the summary; a kind already there stays once (R181). -/
def State.raise (s : State) (k : EventKind) : State := { s with summary := s.summary ||| k.flag }

/-- The part runs: it has its supply and its reset pin is not held (notes/assumptions/6.md, notes/assumptions/17.md). -/
def State.running (s : State) : Bool := s.powered && !s.resetHeld

/-- The attention line is driven exactly when the summary and the mask share a kind, and not while the reset pin is held
(R183), nor by a part without supply (notes/assumptions/6.md). -/
def State.attentionDriven (s : State) : Bool := s.running && (s.summary &&& s.mask != 0)

end Sys2Proof.Machine
end

