-- ==== Sys2Proof/Machine/Ops.lean ====
section
/-! DEFINITION. The named operations over the Circuit Record Table, the Window Pool, the Reflection Search Unit's lanes
and slots, and the answers of commands. -/

namespace Sys2Proof.Machine

/-! ## The table and its two keys -/

/-- The identity index: the record that holds an identity (R1). -/
def State.recordOf (s : State) (id : Identity) : Option Record := s.records.find? (fun r => r.identity == id)

/-- The position map: the record bound to a position, if any (R1). -/
def State.recordAt (s : State) (p : Position) : Option Record := s.records.find? (fun r => r.position == p)

/-- The profile a record names, in the working copy (R162). -/
def State.profileOf (s : State) (r : Record) : Profile := s.settings.profiles.get r.profile

/-- A change to the record that holds an identity, and to no other. -/
def State.update (s : State) (id : Identity) (f : Record → Record) : State :=
  { s with records := s.records.map fun r => if r.identity = id then f r else r }

/-- One record more names the profile (R163). -/
def State.gainReference (s : State) (p : ProfileNumber) : State :=
  { s with refCounts := s.refCounts.set p.val (s.refCounts.get p + 1) p.isLt }

/-- One record fewer names the profile (R163). -/
def State.loseReference (s : State) (p : ProfileNumber) : State :=
  { s with refCounts := s.refCounts.set p.val (s.refCounts.get p - 1) p.isLt }

/-- All 128 positions in ascending order. -/
def allPositions : List Position := List.finRange 128

/-! ## Record alarms -/

/-- A kind is added to a record's alarm set, with RECORD_ALARM when the set did not hold it (R8). -/
def State.raiseAlarm (s : State) (id : Identity) (k : Alarm) : State :=
  match s.recordOf id with
  | some r =>
    if holdsAlarm r.alarms k then s
    else (s.update id fun r => { r with alarms := r.alarms ||| k.flag }).raise .recordAlarm
  | none => s

/-! ## The Window Pool -/

/-- A window as it is lent: all 64 coefficients zero (R51). -/
def zeroWindow (offset : Nat) : Window := { offset := offset, coefficients := List.replicate 64 0 }

/-- The lag ranges offset..offset+63 of two windows share a lag (R4). -/
def windowsOverlap (a b : Nat) : Bool := decide (a ≤ b + 63) && decide (b ≤ a + 63)

/-- A window is placed in the held windows in ascending offset order (R4, R124). -/
def insertWindow (w : Window) : List Window → List Window
  | [] => [w]
  | v :: vs => if w.offset ≤ v.offset then w :: v :: vs else v :: insertWindow w vs

/-- One grant: the record at the head of the waiting list takes a free window at its strongest unplaced offset, and
goes to the tail while it lacks another (R124). -/
def State.grantHead (s : State) (id : Identity) (offset : Nat) (stillUnplaced : List Nat) (behind : List Identity) :
    State :=
  { s.update id fun r => { r with held := insertWindow (zeroWindow offset) r.held, unplaced := stillUnplaced } with
    free := s.free - 1
    part := { s.part with grants := countUp s.part.grants }
    waiting := if stillUnplaced = [] then behind else behind ++ [id] }

/-- Grants go on, one after another, for at most the given number of windows (R124). An entry of the waiting list that
lacks no offset, which R119 rules out, is passed over. -/
def State.grantUpTo : Nat → State → State
  | 0, s => s
  | n + 1, s =>
    match s.waiting with
    | [] => s
    | id :: behind =>
      match (s.recordOf id).map (·.unplaced) with
      | some (offset :: more) => (s.grantHead id offset more behind).grantUpTo n
      | _ => ({ s with waiting := behind } : State).grantUpTo n

/-- Grants until no window is free or no record waits (R124). -/
def State.grantAll (s : State) : State := s.grantUpTo s.free

/-- A record leaves the waiting list, wherever it stands (R119). -/
def State.stopWaiting (s : State) (id : Identity) : State := { s with waiting := s.waiting.filter (· != id) }

/-- A record gives up all it holds of the pool, before the grants that follow (R123). -/
def State.returnWindows (s : State) (id : Identity) : State :=
  match s.recordOf id with
  | some r =>
    { (s.update id fun r => { r with held := [], unplaced := [] }).stopWaiting id with
      free := s.free + r.held.length }
  | none => s

/-- A release with its grants (R123). -/
def State.releaseAll (s : State) (id : Identity) : State := (s.returnWindows id).grantAll

/-- A record joins the tail of the waiting list with the offsets it lacks, and WINDOW_SHORT is added to its alarm set
(R119, R120, R121, R126). -/
def State.waitFor (s : State) (id : Identity) (offsets : List Nat) : State :=
  ({ s.update id fun r => { r with unplaced := offsets } with waiting := s.waiting ++ [id] } : State).raiseAlarm id
    .windowShort

/-- The provisional claim (R120). -/
def State.claimProvisional (s : State) (id : Identity) (offset : Nat) : State :=
  if s.free = 0 then s.waitFor id [offset]
  else { s.update id fun r => { r with held := [zeroWindow offset] } with free := s.free - 1 }

/-! ## Lanes, slots and the arbiter -/

/-- The place where a record stands, as its search status names it (R95). -/
def State.searchStatus (s : State) (id : Identity) : SearchStatus :=
  if s.slots.any (·.identity == id) then .running
  else if s.priorityLane.contains id then .waitingPriority
  else if s.ordinaryLane.contains id then .waitingOrdinary
  else .noSearch

/-- A search as it starts, or restarts: every accumulator, the reference sum and both counts 0 (R96, R112). -/
def freshSlot (id : Identity) : Slot :=
  { identity := id, correlation := List.replicate 1024 0, referenceSum := 0, qualifying := 0, elapsed := 0 }

/-- The arbiter gives up to the given number of free slots to the heads of the lanes, the priority lane first (R97). -/
def State.fillSlots : Nat → State → State
  | 0, s => s
  | n + 1, s =>
    match s.priorityLane, s.ordinaryLane with
    | id :: rest, _ => ({ s with priorityLane := rest, slots := s.slots ++ [freshSlot id] } : State).fillSlots n
    | [], id :: rest => ({ s with ordinaryLane := rest, slots := s.slots ++ [freshSlot id] } : State).fillSlots n
    | [], [] => s

/-- The arbiter acts while a slot of the four is free and a lane holds a record (R97). -/
def State.arbitrate (s : State) : State := s.fillSlots (4 - s.slots.length)

/-- A request as the lanes handle it: it joins, moves to the priority lane, or merges (R98). -/
def State.request (s : State) (lane : Lane) (id : Identity) : State :=
  match s.searchStatus id, lane with
  | .noSearch, .ordinary => ({ s with ordinaryLane := s.ordinaryLane ++ [id] } : State).arbitrate
  | .noSearch, .priority => ({ s with priorityLane := s.priorityLane ++ [id] } : State).arbitrate
  | .waitingOrdinary, .priority =>
    ({ s with
        ordinaryLane := s.ordinaryLane.filter (· != id)
        priorityLane := s.priorityLane ++ [id] } : State).arbitrate
  | _, _ => s

/-- A record leaves the lane it waits in (R99). -/
def State.leaveLanes (s : State) (id : Identity) : State :=
  { s with
    priorityLane := s.priorityLane.filter (· != id)
    ordinaryLane := s.ordinaryLane.filter (· != id) }

/-- The slot that holds a record is freed, its values discarded (R96). -/
def State.freeSlot (s : State) (id : Identity) : State := { s with slots := s.slots.filter (·.identity != id) }

/-- A waiting request is removed, or a running search aborted without result, and the arbiter acts (R99, R111). -/
def State.cancelSearch (s : State) (id : Identity) : State := ((s.leaveLanes id).freeSlot id).arbitrate

/-- A running search is restarted in the slot it holds (R112). -/
def State.restartSearch (s : State) (id : Identity) : State :=
  { s with slots := s.slots.map fun sl => if sl.identity = id then freshSlot id else sl }

/-! ## Running a step -/

/-- What carrying out a command leaves, and what its reply says after the code (R180). -/
structure Answer where
  state : State
  status : Status
  results : List Byte

/-- A refusal leaves the state as it was and carries no results (R9). -/
def refuse (s : State) (st : Status) : Answer := { state := s, status := st, results := [] }

/-- Every step but RESET and POWER_LOSS needs a part that runs: without supply, or with the reset pin held, it does
nothing (notes/assumptions/6.md, notes/assumptions/17.md). -/
def whileRunning (s : State) (f : State → State) : Host.Outcome State Fault Refusal :=
  .next (if s.running then f s else s)

end Sys2Proof.Machine
end

