-- ==== Sys2Proof/Machine/SamplePath.lean ====
section
/-! DEFINITION. One record's frame work: the two chains, talk detection, the estimate, adaptation, the suppressor and the
block accumulation (R36), as functions of the record, its profile and the frame's two samples. -/

namespace Sys2Proof.Machine

/-! ## Stages 1 and 2: incoming chain and history -/

/-- The multipliers of a record's chains at a frame (R40). -/
def usedPadIn (p : Profile) (r : Record) : Nat := r.padIn.getD p.padIn
def usedPadOut (p : Profile) (r : Record) : Nat := r.padOut.getD p.padOut
def usedGainIn (p : Profile) (r : Record) : Nat := if p.alcIn then r.gainIn else 4096
def usedGainOut (p : Profile) (r : Record) : Nat := if p.alcOut then r.gainOut else 4096

/-- The incoming chain: Xout from Tin (R41). -/
def incomingChain (p : Profile) (r : Record) (tin : Sample) : Sample :=
  scaleQ (scaleQ tin (usedPadIn p r)) (usedGainIn p r)

/-- Xout enters at lag 0 and the sample that comes to lag 1024 leaves (R42). -/
def writeHistory (history : List Sample) (xout : Sample) : List Sample := (xout :: history).take 1024

/-! ## Stage 3: talk detection -/

/-- The far decision (R69). -/
def farDecision (p : Profile) (history : List Sample) : Bool :=
  decide (p.speechFloor ≤ largestMagnitude (history.take 64))

/-- The near trigger (R70). -/
def nearTrigger (p : Profile) (history : List Sample) (y : Sample) : Bool :=
  decide (p.speechFloor ≤ magnitude y) &&
    decide (largestMagnitude history < magnitude y * 2 ^ p.doubleTalkShift)

/-- The near decision (R71). -/
def nearDecision (trigger : Bool) (hold : Nat) : Bool := trigger || decide (0 < hold)

/-- The near hold counter after the frame (R71). -/
def nextNearHold (p : Profile) (trigger : Bool) (hold : Nat) : Nat := if trigger then p.nearHold else hold - 1

/-- The talk state of the two decisions (R72). -/
def talkStateOf (far near : Bool) : TalkState :=
  match far, near with
  | false, false => .idle
  | true, false => .far
  | false, true => .near
  | true, true => .double

/-! ## Stage 4: estimate and residual -/

/-- The share of one window in the estimate sum Sy (R53). -/
def windowEstimate (history : List Sample) (w : Window) : Int :=
  (w.coefficients.mapIdx fun k h => h.toInt * (lag history (w.offset + k)).toInt).sum

/-- The estimate sum Sy over all held windows (R53). -/
def estimateSum (history : List Sample) (held : List Window) : Int := (held.map (windowEstimate history)).sum

/-- The estimate (R54). -/
def estimate (history : List Sample) (held : List Window) : Sample :=
  saturate (roundEstimate (estimateSum history held))

/-- The states in which the estimate is subtracted and the model adapts (R6, R43). -/
def cancels : RecordState → Bool
  | .settling | .converged => true
  | .bypass | .transparent | .lapsed => false

/-- The residual e (R43). -/
def residualOf (state : RecordState) (history : List Sample) (held : List Window) (y : Sample) : Sample :=
  if cancels state then saturate (y.toInt - (estimate history held).toInt) else y

/-! ## Stage 5: adaptation -/

/-- The reference power under one window (R57). -/
def windowPower (history : List Sample) (w : Window) : Nat :=
  ((List.range 64).map fun k => square (lag history (w.offset + k))).sum

/-- The window reference power P (R57). -/
def referencePower (history : List Sample) (held : List Window) : Nat := (held.map (windowPower history)).sum

/-- The floor test (R57). -/
def floorTest (p : Profile) (history : List Sample) (held : List Window) : Bool :=
  decide (64 * held.length * p.referenceFloor ^ 2 ≤ referencePower history held)

/-- Whether adaptation is done at the frame (R56). -/
def adapts (p : Profile) (r : Record) (history : List Sample) (talk : TalkState) : Bool :=
  cancels r.state && !r.freeze && talk == .far && !r.held.isEmpty && floorTest p history r.held

/-- The update quantity u of one tap (R58). -/
def updateQuantity (p : Profile) (residual reference : Sample) (power : Nat) : Int :=
  truncate (residual.toInt * reference.toInt * 2 ^ (15 - p.stepExponent))
    ((power + p.regularisation * 256 : Nat) : Int)

/-- One window's coefficients after the update of all its taps (R58, R59, R60). -/
def adaptWindow (p : Profile) (history : List Sample) (residual : Sample) (power : Nat) (w : Window) : Window :=
  { w with
    coefficients := w.coefficients.mapIdx fun k h =>
      saturate (h.toInt + updateQuantity p residual (lag history (w.offset + k)) power) }

/-- The held windows as the frame leaves them (R56, R59). -/
def heldAfter (p : Profile) (r : Record) (history : List Sample) (talk : TalkState) (residual : Sample) :
    List Window :=
  if adapts p r history talk then
    r.held.map (adaptWindow p history residual (referencePower history r.held))
  else r.held

/-! ## Stage 6: suppressor -/

/-- Whether the frame is suppressed (R129). -/
def suppresses (p : Profile) (r : Record) (history : List Sample) (talk : TalkState) (residual : Sample) : Bool :=
  r.state == .converged && p.suppressorOn && talk == .far &&
    decide (magnitude residual * 2 ^ p.suppressionDepth ≤ largestMagnitude (history.take 64))

/-- One step of the noise register (R132). -/
def stepNoise (n : BitVec 16) : BitVec 16 := if n &&& 1 = 1 then (n >>> 1) ^^^ 0xB400 else n >>> 1

/-- Comfort fill from a register value and the background level (R132). -/
def comfortFill (noise : BitVec 16) (background : Nat) : Sample :=
  saturate (truncate (noise.toInt * (background : Int)) 16384)

/-- The noise register after the frame (R131, R132). -/
def noiseAfter (p : Profile) (r : Record) (suppressed : Bool) : BitVec 16 :=
  if suppressed && p.comfortFillOn then stepNoise r.noise else r.noise

/-- The suppressor output e′ (R129, R131, R132). -/
def suppressorOutput (p : Profile) (r : Record) (suppressed : Bool) (residual : Sample) : Sample :=
  if suppressed then
    if p.comfortFillOn then comfortFill (noiseAfter p r suppressed) r.background else 0
  else residual

/-! ## Stages 7 and 8, and the whole frame -/

/-- The outgoing level measurement point b (R44). -/
def outgoingLevel (p : Profile) (r : Record) (out : Sample) : Sample := scaleQ out (usedGainOut p r)

/-- Tout from b (R44). -/
def outgoingPad (p : Profile) (r : Record) (b : Sample) : Sample := scaleQ b (usedPadOut p r)

/-- Whether a sample has arrived at full scale (R46). -/
def clipped (v : Sample) : Bool := v == 0x8000 || v == 0x7FFF

/-- What one record's frame work makes of the frame, stage by stage (R36). -/
structure FrameWork where
  /-- Xout -/
  xout : Sample
  /-- x(0..1023) after the write -/
  history : List Sample
  talk : TalkState
  nearHold : Nat
  /-- e -/
  residual : Sample
  held : List Window
  suppressed : Bool
  noise : BitVec 16
  /-- b -/
  level : Sample
  /-- Tout -/
  tout : Sample

/-- Stages 1 to 7 of R36, each reading what the stages before it produced. -/
def frameStages (p : Profile) (r : Record) (tin xin : Sample) : FrameWork :=
  let xout := incomingChain p r tin
  let history := writeHistory r.history xout
  let trigger := nearTrigger p history xin
  let talk := talkStateOf (farDecision p history) (nearDecision trigger r.nearHold)
  let residual := residualOf r.state history r.held xin
  let suppressed := suppresses p r history talk residual
  let level := outgoingLevel p r (suppressorOutput p r suppressed residual)
  { xout := xout
    history := history
    talk := talk
    nearHold := nextNearHold p trigger r.nearHold
    residual := residual
    held := heldAfter p r history talk residual
    suppressed := suppressed
    noise := noiseAfter p r suppressed
    level := level
    tout := outgoingPad p r level }

/-- Stage 8: the frame is taken into the block working values (R45, R46, R75, R80, R134, R135, R138, R150). -/
def accumulate (r : Record) (w : FrameWork) (tin xin : Sample) (b : BlockValues) : BlockValues :=
  { b with
    live := b.live + 1
    clip := b.clip || clipped tin || clipped xin
    idleFrames := b.idleFrames + (if w.talk = .idle then 1 else 0)
    farFrames := b.farFrames + (if w.talk = .far then 1 else 0)
    nearFrames := b.nearFrames + (if w.talk = .near then 1 else 0)
    doubleFrames := b.doubleFrames + (if w.talk = .double then 1 else 0)
    energyIn := b.energyIn + square xin
    energyResidual := b.energyResidual + square w.residual
    energyOut := b.energyOut + square w.xout
    supervised := b.supervised + (if cancels r.state && !r.freeze then 1 else 0)
    suppressed := b.suppressed || w.suppressed
    sumXin := b.sumXin + magnitude xin
    sumTin := b.sumTin + magnitude tin
    changesTin := b.changesTin + (if signChanges b.previousTin tin then 1 else 0)
    changesXin := b.changesXin + (if signChanges b.previousXin xin then 1 else 0)
    levelIn := b.levelIn + magnitude w.xout
    levelOut := b.levelOut + magnitude w.level
    previousTin := tin
    previousXin := xin }

/-- The record as its frame work leaves it. -/
def recordAfterFrame (r : Record) (w : FrameWork) (tin xin : Sample) : Record :=
  { r with
    history := w.history
    talk := w.talk
    nearHold := w.nearHold
    held := w.held
    noise := w.noise
    block := accumulate r w tin xin r.block }

/-- A record's frame: its record, Xout and Tout. A LAPSED record does no work and its samples pass unchanged (R35). -/
structure FrameResult where
  record : Record
  xout : Sample
  tout : Sample

/-- The frame of one record (R35, R36). -/
def frameOf (p : Profile) (r : Record) (tin xin : Sample) : FrameResult :=
  if r.state = .lapsed then { record := r, xout := tin, tout := xin }
  else
    let w := frameStages p r tin xin
    { record := recordAfterFrame r w tin xin, xout := w.xout, tout := w.tout }

end Sys2Proof.Machine
end

