-- ==== Sys2Proof/Machine/Operands.lean ====
section
/-! DEFINITION. The encodings of parameters and results: R10 for the record commands, R164 for profiles, R169 for route
rules, R180 for status codes. -/

namespace Sys2Proof.Machine

/-! ## Bytes -/

/-- A two-byte field, most significant byte first (R10). -/
def wordBytes (v : BitVec 16) : List Byte := [v.extractLsb' 8 8, v.extractLsb' 0 8]

/-- The word of two bytes, most significant byte first (R10). -/
def wordOf (high low : Byte) : BitVec 16 := high ++ low

/-- A number in one byte. -/
def byteOfNat (n : Nat) : Byte := BitVec.ofNat 8 n

/-- A number in two bytes, most significant byte first (R10). -/
def natBytes2 (n : Nat) : List Byte := wordBytes (BitVec.ofNat 16 n)

/-- A number in three bytes, most significant byte first (R27). -/
def natBytes3 (n : Nat) : List Byte := [byteOfNat (n / 65536), byteOfNat (n / 256), byteOfNat n]

/-- A yes/no field (R164). -/
def boolByte (b : Bool) : Byte := if b then 0x01 else 0x00

/-- A yes/no field read: 00h no, 01h yes, nothing else (R164, R10). -/
def parseBool (b : Byte) : Option Bool :=
  if b = 0x00 then some false else if b = 0x01 then some true else none

/-- A field that may be "not given", as FFh (R10). -/
def parseOptional {α : Type} (b : Byte) (parse : Byte → Option α) : Option (Option α) :=
  if b = 0xFF then some none else (parse b).map some

/-! ## Parameters -/

/-- A position, 0..127 (R10). -/
def parsePosition (b : Byte) : Option Position := if h : b.toNat < 128 then some ⟨b.toNat, h⟩ else none

/-- A profile number, 0..7 (R10). -/
def parseProfileNumber (b : Byte) : Option ProfileNumber := if h : b.toNat < 8 then some ⟨b.toNat, h⟩ else none

/-- A route rule number, 0..7 (R169). -/
def parseRuleNumber (b : Byte) : Option RuleNumber := if h : b.toNat < 8 then some ⟨b.toNat, h⟩ else none

/-- A line, 0..3 (R10). -/
def parseLine (b : Byte) : Option (Fin 4) := if h : b.toNat < 4 then some ⟨b.toNat, h⟩ else none

/-- A mode (R10). -/
def parseMode (b : Byte) : Option Mode :=
  if b = 0x00 then some .cancel else if b = 0x01 then some .transparent else none

/-- A lane choice (R10). -/
def parseLane (b : Byte) : Option Lane :=
  if b = 0x00 then some .ordinary else if b = 0x01 then some .priority else none

/-- What MODIFY does to one pad override (R10, R22). -/
inductive PadChange where
  | keep | clear | set (value : Nat)
  deriving DecidableEq, Repr

/-- A pad override: 1024..16383 that value, 0000h clear, FFFFh not given (R10). -/
def parsePad (w : BitVec 16) : Option PadChange :=
  if w = 0xFFFF then some .keep
  else if w = 0x0000 then some .clear
  else if 1024 ≤ w.toNat ∧ w.toNat ≤ 16383 then some (.set w.toNat)
  else none

/-! ## Results -/

/-- A record state (R10). -/
def RecordState.byte : RecordState → Byte
  | .settling => 0x00
  | .converged => 0x01
  | .bypass => 0x02
  | .transparent => 0x03
  | .lapsed => 0x04

/-- A record state's flag in a state set (R10). -/
def RecordState.flag : RecordState → Byte
  | .settling => 0x01
  | .converged => 0x02
  | .bypass => 0x04
  | .transparent => 0x08
  | .lapsed => 0x10

/-- The record state that a resume state is (R154). -/
def ResumeState.toState : ResumeState → RecordState
  | .settling => .settling
  | .converged => .converged

/-- The resume state in LOOK, FFh when absent (R10). -/
def resumeByte : Option ResumeState → Byte
  | some r => r.toState.byte
  | none => 0xFF

/-- A talk state (R10). -/
def TalkState.byte : TalkState → Byte
  | .idle => 0x00
  | .far => 0x01
  | .near => 0x02
  | .double => 0x03

/-- A mode (R10). -/
def Mode.byte : Mode → Byte
  | .cancel => 0x00
  | .transparent => 0x01

/-- A search status (R10). -/
def SearchStatus.byte : SearchStatus → Byte
  | .noSearch => 0x00
  | .waitingPriority => 0x01
  | .waitingOrdinary => 0x02
  | .running => 0x03

/-- A last search result (R10). -/
def SearchResult.byte : SearchResult → Byte
  | .noResult => 0x00
  | .placed => 0x01
  | .noEcho => 0x02
  | .inconclusive => 0x03

/-- A status code (R180). -/
def Status.byte : Status → Byte
  | .ok => 0x00
  | .accepted => 0x01
  | .clamped => 0x02
  | .noRecord => 0x10
  | .duplicateCircuit => 0x11
  | .slotTaken => 0x12
  | .tableFull => 0x13
  | .badPosition => 0x14
  | .badProfile => 0x15
  | .badField => 0x16
  | .wrongState => 0x17
  | .recordLapsed => 0x18
  | .profileInUse => 0x19
  | .ruleEnabled => 0x1A
  | .recordsLive => 0x1B
  | .busy => 0x1C
  | .storeWorn => 0x1D
  | .lineOccupied => 0x1E
  | .unknownCommand => 0x1F
  | .badLength => 0x20

/-- A pad override in LOOK, 0000h when absent (R27). -/
def padBytes : Option Nat → List Byte
  | some v => natBytes2 v
  | none => natBytes2 0

/-- Three places of offsets, FFFFh for each place beyond the list (R27). -/
def offsetBytes (offsets : List Nat) : List Byte :=
  (List.range 3).flatMap fun i => natBytes2 (offsets.getD i 0xFFFF)

/-- A record's seven tallies, 14 bytes (R27, R185). -/
def Tallies.bytes (t : Tallies) : List Byte :=
  natBytes2 t.convergedBlocks ++ natBytes2 t.doubleTalkBlocks ++ natBytes2 t.suppressedBlocks ++
  natBytes2 t.clipBlocks ++ natBytes2 t.searchesCompleted ++ natBytes2 t.pathChanges ++ natBytes2 t.divergences

/-- The five part tallies, 10 bytes (R185). -/
def PartTallies.bytes (t : PartTallies) : List Byte :=
  natBytes2 t.attachRefusals ++ natBytes2 t.lineFaults ++ natBytes2 t.overruns ++
  natBytes2 t.inconclusiveSearches ++ natBytes2 t.grants

/-- An alarm set as a byte, flags 10h to 80h not used (R10). -/
def alarmByte (a : AlarmSet) : Byte := a.setWidth 8

/-- LOOK's 60 bytes (R27). -/
def lookBytes (r : Record) (status : SearchStatus) : List Byte :=
  wordBytes r.identity ++ [byteOfNat r.position.val, byteOfNat r.profile.val, r.state.byte, resumeByte r.resume,
    boolByte r.freeze, byteOfNat r.held.length] ++
  offsetBytes (r.held.map (·.offset)) ++ [byteOfNat r.unplaced.length] ++ offsetBytes r.unplaced ++
  [r.talk.byte] ++ natBytes2 r.nearHold ++ natBytes2 r.gainIn ++ natBytes2 r.gainOut ++ padBytes r.padIn ++
  padBytes r.padOut ++ natBytes2 r.background ++ wordBytes r.noise ++
  [byteOfNat r.passCount, byteOfNat r.failCount, byteOfNat r.toneCount, byteOfNat r.quietCount] ++
  natBytes3 r.idleCount ++ [status.byte, r.lastResult.byte, alarmByte r.alarms] ++ r.tallies.bytes

/-- A route rule in RULE_READ's reply (R169). -/
def ruleBytes (rule : RouteRule) : List Byte :=
  [boolByte rule.enabled] ++ wordBytes rule.base ++ wordBytes rule.mask ++ [byteOfNat rule.profile.val, rule.mode.byte]

/-! ## The profile layout -/

/-- A profile in its 36-byte layout (R164). -/
def profileBytes (p : Profile) : List Byte :=
  [boolByte p.searchOn] ++ natBytes2 p.provisionalOffset ++ [byteOfNat p.windowLimit, byteOfNat p.stepExponent] ++
  natBytes2 p.regularisation ++ natBytes2 p.referenceFloor ++ natBytes2 p.speechFloor ++
  [byteOfNat p.doubleTalkShift] ++ natBytes2 p.nearHold ++ [boolByte p.suppressorOn, boolByte p.comfortFillOn] ++
  natBytes2 p.padIn ++ natBytes2 p.padOut ++ [boolByte p.alcIn, boolByte p.alcOut] ++ natBytes2 p.bandLow ++
  natBytes2 p.bandHigh ++ natBytes2 p.gmin ++ natBytes2 p.gmax ++ [boolByte p.toneBypassOn] ++
  natBytes2 p.toneFloor ++ natBytes2 p.idleLimit ++ [byteOfNat p.suppressionDepth]

/-- Byte n of a layout, counted from 1 as R164 counts. -/
def layoutByte (layout : List Byte) (n : Nat) : Byte := layout.getD (n - 1) 0

/-- The two-byte field that begins at byte n of a layout (R164). -/
def layoutWord (layout : List Byte) (n : Nat) : Nat := (wordOf (layoutByte layout n) (layoutByte layout (n + 1))).toNat

/-- Whether every yes/no field of a layout is 00h or 01h (R166, check 2). -/
def layoutFlagsValid (layout : List Byte) : Bool :=
  [1, 15, 16, 21, 22, 31].all fun n => (parseBool (layoutByte layout n)).isSome

/-- The fields of a layout as written, before any clamping; a numeric field may lie outside its range (R164). -/
def layoutProfile (layout : List Byte) : Profile where
  searchOn := layoutByte layout 1 == 0x01
  provisionalOffset := layoutWord layout 2
  windowLimit := (layoutByte layout 4).toNat
  stepExponent := (layoutByte layout 5).toNat
  regularisation := layoutWord layout 6
  referenceFloor := layoutWord layout 8
  speechFloor := layoutWord layout 10
  doubleTalkShift := (layoutByte layout 12).toNat
  nearHold := layoutWord layout 13
  suppressorOn := layoutByte layout 15 == 0x01
  suppressionDepth := (layoutByte layout 36).toNat
  comfortFillOn := layoutByte layout 16 == 0x01
  padIn := layoutWord layout 17
  padOut := layoutWord layout 19
  alcIn := layoutByte layout 21 == 0x01
  alcOut := layoutByte layout 22 == 0x01
  bandLow := layoutWord layout 23
  bandHigh := layoutWord layout 25
  gmin := layoutWord layout 27
  gmax := layoutWord layout 29
  toneBypassOn := layoutByte layout 31 == 0x01
  toneFloor := layoutWord layout 32
  idleLimit := layoutWord layout 34

end Sys2Proof.Machine
end

