-- ==== Sys2Proof/Machine/Search.lean ====
section
/-! DEFINITION. The Reflection Search Unit: accumulation, judgement and placement of a search, the installation of a
placement, and the endings of a search (chapters 6 and 7). -/

namespace Sys2Proof.Machine

/-! ## Accumulation -/

/-- What a slot takes in at a frame of its record: y, the reference history after the write, and the talk state
(R101, R102). -/
def accumulateSlot (sl : Slot) (y : Sample) (history : List Sample) (talk : TalkState) : Slot :=
  if talk = .far then
    { sl with
      correlation := List.zipWith (fun c x => c + shiftRight8 y * shiftRight8 x) sl.correlation history
      referenceSum := sl.referenceSum + (shiftRight8 (lag history 0)).natAbs ^ 2
      qualifying := sl.qualifying + 1
      elapsed := sl.elapsed + 1 }
  else { sl with elapsed := sl.elapsed + 1 }

/-! ## Judgement -/

/-- One band of 32 lags: its number, score and peak lag (R104). -/
structure Band where
  number : Nat
  score : Nat
  peak : Nat
  deriving DecidableEq, Repr

/-- The largest magnitude among correlations; 0 for none. -/
def largestScore (correlation : List Int) : Nat := correlation.foldl (fun m c => max m c.natAbs) 0

/-- Band b covers lags 32·b to 32·b + 31; its peak lag is the lowest whose magnitude equals the score (R104). -/
def bandOf (correlation : List Int) (b : Nat) : Band :=
  let lags := (correlation.drop (32 * b)).take 32
  let score := largestScore lags
  { number := b, score := score, peak := 32 * b + lags.findIdx fun c => c.natAbs == score }

/-- The 32 bands (R104). -/
def bandsOf (correlation : List Int) : List Band := (List.range 32).map (bandOf correlation)

/-- The strongest score Smax (R104). -/
def strongest (bands : List Band) : Nat := bands.foldl (fun m b => max m b.score) 0

/-- Whether echo is present (R105). -/
def echoPresent (sl : Slot) : Bool :=
  decide (sl.referenceSum ≤ strongest (bandsOf sl.correlation) * 32)

/-- The rank order of candidates: the higher score first, of equal scores the lower band (R106). -/
def ranksBefore (a b : Band) : Bool :=
  decide (b.score < a.score) || (a.score == b.score && decide (a.number ≤ b.number))

/-- The candidates in rank order (R106). -/
def candidatesOf (correlation : List Int) : List Band :=
  let bands := bandsOf correlation
  (bands.filter fun b => decide (strongest bands ≤ b.score * 8)).insertionSort fun a b => ranksBefore a b = true

/-- Whether a window start overlaps a listed window (R107). -/
def overlapsListed (placed : List Nat) (start : Nat) : Bool := placed.any fun o => windowsOverlap o start

/-- The listed window of lowest offset that a start overlaps (R107, step 3). -/
def lowestOverlapped (placed : List Nat) (start : Nat) : Option Nat :=
  (placed.filter fun o => windowsOverlap o start).min?

/-- The start of a candidate's window after steps 2 and 3 of R107. -/
def candidateStart (placed : List Nat) (peak : Nat) : Nat :=
  let start := min 960 (peak - 16)
  match lowestOverlapped placed start with
  | none => start
  | some w =>
    if w + 63 < peak then min 960 (w + 64)
    else if peak < w then w - 64
    else start

/-- One candidate is added to the list or dropped (R107, steps 1 to 4). -/
def placeCandidate (placed : List Nat) (peak : Nat) : List Nat :=
  if placed.any fun o => decide (o ≤ peak) && decide (peak ≤ o + 63) then placed
  else
    let start := candidateStart placed peak
    if overlapsListed placed start then placed else placed ++ [start]

/-- The placement: candidates taken in rank order until the list holds as many offsets as the window limit (R107). -/
def placementOf (limit : Nat) (peaks : List Nat) : List Nat :=
  peaks.foldl (fun placed peak => if limit ≤ placed.length then placed else placeCandidate placed peak) []

/-- The placement a completed search yields under a window limit (R106, R107). -/
def searchPlacement (limit : Nat) (correlation : List Int) : List Nat :=
  placementOf limit ((candidatesOf correlation).map (·.peak))

/-! ## Installation -/

/-- The coefficients a claimed window takes: those of the returned window at the identical offset, else zeros (R51). -/
def claimedWindow (returned : List Window) (offset : Nat) : Window :=
  match returned.find? (·.offset == offset) with
  | some w => w
  | none => zeroWindow offset

/-- The windows claimed for some offsets, arranged in ascending offset order (R121, steps 3, 4 and 6). -/
def claimedWindows (returned : List Window) (offsets : List Nat) : List Window :=
  offsets.foldl (fun held o => insertWindow (claimedWindow returned o) held) []

/-- A CONVERGED record whose held offsets changed becomes SETTLING with its counts 0 (R122). -/
def settleState (before : List Nat) (r : Record) : Record :=
  if r.state = .converged ∧ r.held.map (·.offset) ≠ before then
    { r with state := .settling, passCount := 0, failCount := 0 }
  else r

/-- The installation of a placement (R121, R122): return, claim, wait for the shortfall, settle the state, grant. -/
def State.install (s : State) (r : Record) (placement : List Nat) : State :=
  let s1 := s.returnWindows r.identity
  let claimed := placement.take s1.free
  let short := placement.drop s1.free
  let s2 : State :=
    { s1.update r.identity fun q => { q with held := claimedWindows r.held claimed } with
      free := s1.free - claimed.length }
  let s3 := if short = [] then s2 else s2.waitFor r.identity short
  (s3.update r.identity (settleState (r.held.map (·.offset)))).grantAll

/-! ## Endings -/

/-- Whether a search completes: its qualifying count has reached 2048 (R103). -/
def searchDone (sl : Slot) : Bool := decide (2048 ≤ sl.qualifying)

/-- Whether a search times out: 16,000 frames elapsed without completion (R110). -/
def searchExpired (sl : Slot) : Bool := !searchDone sl && decide (16000 ≤ sl.elapsed)

/-- The effects of a completion on the record that both results share (R109). -/
def noteResult (result : SearchResult) (r : Record) : Record :=
  { r with
    lastResult := result
    tallies := { r.tallies with searchesCompleted := countUp r.tallies.searchesCompleted } }

/-- The judgement of a search and what its result does to the record and the pool (R104 to R109). -/
def State.judgeSearch (s : State) (r : Record) (sl : Slot) : State :=
  if echoPresent sl then
    (s.update r.identity (noteResult .placed)).install r
      (searchPlacement (s.profileOf r).windowLimit sl.correlation)
  else (s.update r.identity (noteResult .noEcho)).releaseAll r.identity

/-- A search that is done is judged, its slot freed, and the arbiter acts (R103, R109). -/
def State.completeSearch (s : State) (id : Identity) : State :=
  match s.recordOf id, s.slots.find? (·.identity == id) with
  | some r, some sl =>
    if searchDone sl then ((s.freeSlot id).judgeSearch r sl).arbitrate else s
  | _, _ => s

/-- A search that has run out of time ends INCONCLUSIVE, its slot freed, and the arbiter acts (R110). -/
def State.timeOutSearch (s : State) (id : Identity) : State :=
  match s.slots.find? (·.identity == id) with
  | some sl =>
    if searchExpired sl then
      (({ (s.freeSlot id).update id fun r => { r with lastResult := .inconclusive } with
          part := { s.part with inconclusiveSearches := countUp s.part.inconclusiveSearches } } : State)).arbitrate
    else s
  | none => s

/-- The searches that end at a frame, in ascending order of their records' positions (R108). -/
def State.endSearches (s : State) : State :=
  allPositions.foldl (fun s p =>
    match s.recordAt p with
    | some r => (s.completeSearch r.identity).timeOutSearch r.identity
    | none => s) s

/-- SEARCH_COMPLETE (R103). -/
def execSearchComplete (id : Identity) (s : State) : Host.Outcome State Fault Refusal :=
  whileRunning s fun s => s.completeSearch id

/-- SEARCH_TIMEOUT (R110). -/
def execSearchTimeout (id : Identity) (s : State) : Host.Outcome State Fault Refusal :=
  whileRunning s fun s => s.timeOutSearch id

end Sys2Proof.Machine
end

