-- ==== Sys2Proof/Machine/BlockEnd.lean ====
section
/-! DEFINITION. The block-end work of the Block Supervisor (chapters 2, 4, 5, 8, 9 and 10), and the transitions that come
about in it: PROMOTION, PATH_CHANGE, ENTRY_TO_BYPASS, RETURN_FROM_BYPASS and IDLE_LAPSE. -/

namespace Sys2Proof.Machine

/-! ## Measurements and local updates of one record -/

/-- A block is whole when the record's live count is 64 at the block end (R45). -/
def isWhole (r : Record) : Bool := r.block.live == 64

/-- The background level's revision (R135). -/
def reviseBackground (r : Record) : Record :=
  if r.block.idleFrames = 64 then
    let m := min 8191 (meanMagnitude r.block.sumXin)
    { r with background := ((r.background : Int) + truncate ((m : Int) - (r.background : Int)) 8).toNat }
  else r

/-- One step of a gain: down a sixteenth above the band, up a sixty-fourth below it, then clamped (R141). -/
def stepGain (p : Profile) (level gain : Nat) : Nat :=
  clampNat p.gmin p.gmax
    (if p.bandHigh < level then gain - (gain + 15) / 16
     else if level < p.bandLow then gain + max 1 (gain / 64)
     else gain)

/-- The states in which level control updates the gains (R140). -/
def levelControlled : RecordState → Bool
  | .settling | .converged | .transparent => true
  | .bypass | .lapsed => false

/-- Whether the incoming controller updates its gain at a whole block end (R78, R140). -/
def updatesGainIn (p : Profile) (r : Record) : Bool :=
  levelControlled r.state && p.alcIn && decide (32 ≤ r.block.farFrames + r.block.doubleFrames)

/-- Whether the outgoing controller updates its gain at a whole block end (R78, R140). -/
def updatesGainOut (p : Profile) (r : Record) : Bool :=
  levelControlled r.state && p.alcOut && decide (32 ≤ r.block.nearFrames + r.block.doubleFrames)

/-- Level control at a whole block end (R140, R141). -/
def levelControl (p : Profile) (r : Record) : Record :=
  { r with
    gainIn := if updatesGainIn p r then stepGain p (meanMagnitude r.block.levelIn) r.gainIn else r.gainIn
    gainOut := if updatesGainOut p r then stepGain p (meanMagnitude r.block.levelOut) r.gainOut else r.gainOut }

/-- The double-talk-blocks and suppressed-blocks tallies of a whole block (R76, R134). -/
def countTalkAndSuppression (r : Record) : Record :=
  { r with
    tallies :=
      { r.tallies with
        doubleTalkBlocks :=
          if 1 ≤ r.block.doubleFrames then countUp r.tallies.doubleTalkBlocks else r.tallies.doubleTalkBlocks
        suppressedBlocks :=
          if r.block.suppressed then countUp r.tallies.suppressedBlocks else r.tallies.suppressedBlocks } }

/-- The whole block's work that changes the record alone (R76, R134, R135, R140). -/
def measureBlock (p : Profile) (r : Record) : Record :=
  countTalkAndSuppression (levelControl p (reviseBackground r))

/-- The clip-blocks tally counts one (R46). -/
def countClip (r : Record) : Record := { r with tallies := { r.tallies with clipBlocks := countUp r.tallies.clipBlocks } }

/-- Clip detection, at the end of partial blocks as well as whole ones (R46). -/
def State.detectClip (s : State) (r : Record) : State :=
  if r.block.clip then (s.update r.identity countClip).raiseAlarm r.identity .inputClip else s

/-! ## Convergence supervision -/

/-- The four classes of a qualifying block (R82). -/
inductive BlockClass where
  | divergent | failing | passing | marginal
  deriving DecidableEq, Repr

/-- The floor L (R82). -/
def convergenceFloor (p : Profile) : Nat := 64 * p.speechFloor ^ 2

/-- The class of a qualifying block; a divergent block is not handled as failing (R82). -/
def classify (p : Profile) (b : BlockValues) : BlockClass :=
  if convergenceFloor p < b.energyIn ∧ b.energyIn * 2 < b.energyResidual then .divergent
  else if convergenceFloor p < b.energyIn ∧ b.energyIn < b.energyResidual * 4 then .failing
  else if b.energyIn ≤ convergenceFloor p ∨ b.energyResidual * 16 ≤ b.energyIn then .passing
  else .marginal

/-- Whether the block is qualifying for the record (R81). -/
def qualifies (r : Record) : Bool :=
  isWhole r && r.block.supervised == 64 && r.block.farFrames == 64 && cancels r.state && !r.freeze

/-- Whether the echo return loss over the block is below 6 dB (R88). -/
def echoIsStrong (b : BlockValues) : Bool := decide (b.energyOut < b.energyIn * 4)

/-- Every coefficient of a window becomes 0 (R63). -/
def zeroCoefficients (w : Window) : Window := { w with coefficients := w.coefficients.map fun _ => 0 }

/-- The effects of a divergence on the record (R83, steps 1 and 3 to 5). -/
def divergeRecord (r : Record) : Record :=
  { r with
    held := r.held.map zeroCoefficients
    tallies := { r.tallies with divergences := countUp r.tallies.divergences }
    state := .settling
    passCount := 0
    failCount := 0 }

/-- The supervisor's priority search request, put when the profile has its search on and a window limit of 1 or more
(R87). -/
def State.supervisorRequest (s : State) (id : Identity) : State :=
  match s.recordOf id with
  | some r =>
    if (s.profileOf r).searchOn && decide (1 ≤ (s.profileOf r).windowLimit) then s.request .priority id else s
  | none => s

/-- A divergence (R83). -/
def State.diverge (s : State) (id : Identity) : State :=
  ((s.update id divergeRecord).raiseAlarm id .diverged).supervisorRequest id

/-- The counts of a passing block (R84). -/
def passBlock (r : Record) : Record := { r with failCount := 0, passCount := min 4 (r.passCount + 1) }

/-- Whether the pass count has reached 4 in SETTLING (R84). -/
def promotionDue (r : Record) : Bool := r.state == .settling && decide (4 ≤ r.passCount)

/-- The promotion of a record (R84). -/
def promoteRecord (r : Record) : Record := { r with state := .converged, passCount := 0 }

/-- PROMOTION where it is due (R84). -/
def State.promoteIfDue (s : State) (id : Identity) : State :=
  match s.recordOf id with
  | some r => if promotionDue r then s.update id promoteRecord else s
  | none => s

/-- The counts of a failing block (R85). -/
def failBlock (r : Record) : Record :=
  { r with passCount := 0, failCount := if r.state = .converged then r.failCount + 1 else r.failCount }

/-- Whether the fail count has reached 8 in CONVERGED (R85). -/
def pathChangeDue (r : Record) : Bool := r.state == .converged && decide (8 ≤ r.failCount)

/-- The effects of a path change on the record (R85). -/
def changePathRecord (r : Record) : Record :=
  { r with
    state := .settling
    passCount := 0
    failCount := 0
    tallies := { r.tallies with pathChanges := countUp r.tallies.pathChanges } }

/-- PATH_CHANGE where it is due (R85). -/
def State.changePathIfDue (s : State) (id : Identity) : State :=
  match s.recordOf id with
  | some r => if pathChangeDue r then (s.update id changePathRecord).supervisorRequest id else s
  | none => s

/-- The counts of a marginal block (R86). -/
def marginalBlock (r : Record) : Record := { r with passCount := 0, failCount := 0 }

/-- The handling of a qualifying block by its class (R83 to R86). -/
def State.handleClass (s : State) (id : Identity) : BlockClass → State
  | .divergent => s.diverge id
  | .passing => (s.update id passBlock).promoteIfDue id
  | .failing => (s.update id failBlock).changePathIfDue id
  | .marginal => s.update id marginalBlock

/-- The ECHO_STRONG test of a qualifying block (R88). -/
def State.testEcho (s : State) (r : Record) : State :=
  if echoIsStrong r.block then s.raiseAlarm r.identity .echoStrong else s

/-- Convergence supervision at a whole block end (R81 to R88). -/
def State.supervise (s : State) (id : Identity) : State :=
  match s.recordOf id with
  | some r =>
    if qualifies r then (s.testEcho r).handleClass id (classify (s.profileOf r) r.block) else s
  | none => s

/-- The converged-blocks tally, on the state convergence supervision leaves (R89). -/
def countConverged (r : Record) : Record :=
  if r.state = .converged then
    { r with tallies := { r.tallies with convergedBlocks := countUp r.tallies.convergedBlocks } }
  else r

/-! ## Tone, quiet and idle -/

/-- Whether a path is tone-like (R151). -/
def toneLike (p : Profile) (changes sum : Nat) : Bool :=
  decide (31 ≤ changes) && decide (changes ≤ 36) && decide (p.toneFloor ≤ meanMagnitude sum)

/-- The tone count after a whole block (R152). -/
def nextToneCount (p : Profile) (r : Record) : Nat :=
  if p.toneBypassOn &&
      (toneLike p r.block.changesTin r.block.sumTin || toneLike p r.block.changesXin r.block.sumXin) then
    r.toneCount + 1
  else 0

/-- Whether the block is quiet on both paths (R154, R156). -/
def quietBlock (p : Profile) (r : Record) : Bool :=
  decide (meanMagnitude r.block.sumTin < p.speechFloor) && decide (meanMagnitude r.block.sumXin < p.speechFloor)

/-- The tone count of a cancelling record or the quiet count of a BYPASS record is revised (R152, R154). -/
def reviseToneOrQuiet (p : Profile) (r : Record) : Record :=
  match r.state with
  | .settling | .converged => { r with toneCount := nextToneCount p r }
  | .bypass => { r with quietCount := if quietBlock p r then r.quietCount + 1 else 0 }
  | .transparent | .lapsed => r

/-- Whether the tone count has reached 50 in a cancelling record (R152). -/
def bypassDue (r : Record) : Bool := cancels r.state && decide (50 ≤ r.toneCount)

/-- What the resume state records of a cancelling state (R153). -/
def resumeOf : RecordState → ResumeState
  | .converged => .converged
  | .settling | .bypass | .transparent | .lapsed => .settling

/-- Entry to BYPASS on the record (R153). -/
def bypassRecord (r : Record) : Record :=
  { r with state := .bypass, resume := some (resumeOf r.state), quietCount := 0 }

/-- ENTRY_TO_BYPASS where it is due (R153). -/
def State.enterBypassIfDue (s : State) (id : Identity) : State :=
  match s.recordOf id with
  | some r => if bypassDue r then (s.update id bypassRecord).cancelSearch id else s
  | none => s

/-- Whether the quiet count has reached 32 in BYPASS (R154). -/
def returnDue (r : Record) : Bool := r.state == .bypass && decide (32 ≤ r.quietCount)

/-- The state a BYPASS record returns to. -/
def returnState (r : Record) : RecordState := (r.resume.map ResumeState.toState).getD .settling

/-- The return on the record (R154). -/
def returnRecord (r : Record) : Record :=
  { r with state := returnState r, resume := none, toneCount := 0, quietCount := 0 }

/-- Whether the return puts an ordinary request (R154). -/
def returnRequests (p : Profile) (r : Record) : Bool :=
  returnState r == .settling && p.searchOn && decide (1 ≤ p.windowLimit)

/-- RETURN_FROM_BYPASS where it is due (R154). -/
def State.returnIfDue (s : State) (id : Identity) : State :=
  match s.recordOf id with
  | some r =>
    if returnDue r then
      if returnRequests (s.profileOf r) r then (s.update id returnRecord).request .ordinary id
      else s.update id returnRecord
    else s
  | none => s

/-- The tone count and entry to BYPASS, or the quiet count and return, by the state this work finds (R159). -/
def State.toneWork (s : State) (id : Identity) : State :=
  match s.recordOf id with
  | some r =>
    let s1 := s.update id (reviseToneOrQuiet (s.profileOf r))
    if r.state = .bypass then s1.returnIfDue id else s1.enterBypassIfDue id
  | none => s

/-- The idle count is revised under the idle limit (R156). -/
def reviseIdle (p : Profile) (r : Record) : Record :=
  if p.idleLimit ≠ 0 ∧ quietBlock p r then
    { r with idleCount := r.idleCount + 1, block := { r.block with idleRose := true } }
  else { r with idleCount := 0, block := { r.block with idleRose := false } }

/-- Whether the idle count, after its increase at the block end under way, has reached the limit (R156). -/
def lapseDue (p : Profile) (r : Record) : Bool :=
  r.state != .lapsed && r.block.idleRose && decide (p.idleLimit ≠ 0) && decide (p.idleLimit * 125 ≤ r.idleCount)

/-- The record as it lapses; its windows go by the release (R157). -/
def lapseRecord (r : Record) : Record := { r with state := .lapsed, resume := none }

/-- IDLE_LAPSE where it is due: release with its grants, removal from the search unit, the LAPSE event (R157, R158). -/
def State.lapseIfDue (s : State) (id : Identity) : State :=
  match s.recordOf id with
  | some r =>
    if lapseDue (s.profileOf r) r then
      ((((s.update id lapseRecord).releaseAll id).cancelSearch id).raise .lapse)
    else s
  | none => s

/-- The idle count and lapse (R156, R157). -/
def State.idleWork (s : State) (id : Identity) : State :=
  match s.recordOf id with
  | some r => (s.update id (reviseIdle (s.profileOf r))).lapseIfDue id
  | none => s

/-! ## The whole block end -/

/-- The block working values at the start of a block, with the carried last samples (R45, R150). -/
def startBlock (lastTin lastXin : Sample) : BlockValues := { previousTin := lastTin, previousXin := lastXin }

/-- The block working values return to their starting values; a whole block sets the carried last samples (R45). -/
def closeBlock (r : Record) : Record :=
  let lastTin := if isWhole r then r.block.previousTin else r.lastTin
  let lastXin := if isWhole r then r.block.previousXin else r.lastXin
  { r with lastTin := lastTin, lastXin := lastXin, block := startBlock lastTin lastXin }

/-- The block tests of a whole block, in their order (R47, R90, R159). -/
def State.wholeBlockWork (s : State) (r : Record) : State :=
  ((((s.update r.identity (measureBlock (s.profileOf r))).supervise r.identity).update r.identity
    countConverged).toneWork r.identity).idleWork r.identity

/-- The block-end work of one record; none for a LAPSED one (R34, R46, R47). -/
def State.recordBlockEnd (s : State) (r : Record) : State :=
  if r.state = .lapsed then s
  else
    let s1 := s.detectClip r
    (if isWhole r then s1.wholeBlockWork r else s1).update r.identity closeBlock

/-- The block-end work of the record at a position, if any. -/
def State.positionBlockEnd (s : State) (p : Position) : State :=
  match s.recordAt p with
  | some r => s.recordBlockEnd r
  | none => s

/-- The block-end work of every record in ascending order of position, where it is due (R34, R97). -/
def State.endBlock (s : State) : State :=
  if s.blockEndDue then ({ allPositions.foldl State.positionBlockEnd s with blockEndDue := false } : State) else s

/-! ## The steps -/

/-- BLOCK_END (R34); without a phase-63 frame whose block end is still to come there is nothing to do
(notes/assumptions/2.md). -/
def execBlockEnd (s : State) : Host.Outcome State Fault Refusal := whileRunning s State.endBlock

/-- PROMOTION (R84). -/
def execPromotion (id : Identity) (s : State) : Host.Outcome State Fault Refusal :=
  whileRunning s fun s => s.promoteIfDue id

/-- PATH_CHANGE (R85). -/
def execPathChange (id : Identity) (s : State) : Host.Outcome State Fault Refusal :=
  whileRunning s fun s => s.changePathIfDue id

/-- ENTRY_TO_BYPASS (R153). -/
def execEntryToBypass (id : Identity) (s : State) : Host.Outcome State Fault Refusal :=
  whileRunning s fun s => s.enterBypassIfDue id

/-- RETURN_FROM_BYPASS (R154). -/
def execReturnFromBypass (id : Identity) (s : State) : Host.Outcome State Fault Refusal :=
  whileRunning s fun s => s.returnIfDue id

/-- IDLE_LAPSE (R157). -/
def execIdleLapse (id : Identity) (s : State) : Host.Outcome State Fault Refusal :=
  whileRunning s fun s => s.lapseIfDue id

end Sys2Proof.Machine
end

