-- ==== Sys2Proof/Machine/Frame.lean ====
section
/-! DEFINITION. FRAME_SYNC: the Highway Interface's frame, the frame work of every position, the accumulation of the search
slots and the searches that end at the frame (R32 to R36, R101, R108). -/

namespace Sys2Proof.Machine

/-- The sample of a position in a highway frame. -/
def sampleAt (highway : List Sample) (p : Position) : Sample := highway.getD p.val 0

/-- The phase of the frame that a frame sync begins: one more than the last, and 0 after 63 (R34). -/
def nextPhase (f : Fin 64) : Fin 64 := f + 1

/-- The frame of every record of the table on the samples of its position (R33, R36). -/
def State.frameResults (s : State) (trunkIn exchangeIn : List Sample) : List FrameResult :=
  s.records.map fun r => frameOf (s.profileOf r) r (sampleAt trunkIn r.position) (sampleAt exchangeIn r.position)

/-- The exchange-out sample computed for a position: its record's Xout, or trunk-in unchanged (R35). -/
def exchangeOutAt (results : List FrameResult) (trunkIn : List Sample) (p : Position) : Sample :=
  match results.find? (fun f => f.record.position == p) with
  | some f => f.xout
  | none => sampleAt trunkIn p

/-- The trunk-out sample computed for a position: its record's Tout, or exchange-in unchanged (R35). -/
def trunkOutAt (results : List FrameResult) (exchangeIn : List Sample) (p : Position) : Sample :=
  match results.find? (fun f => f.record.position == p) with
  | some f => f.tout
  | none => sampleAt exchangeIn p

/-- Each occupied slot reads its record's frame work (R101). -/
def State.accumulateSearches (s : State) (exchangeIn : List Sample) : State :=
  { s with
    slots := s.slots.map fun sl =>
      match s.recordOf sl.identity with
      | some r => accumulateSlot sl (sampleAt exchangeIn r.position) r.history r.talk
      | none => sl }

/-- The frame work of all positions: outputs for the next frame and the records' new values (R32, R35, R36). -/
def State.workFrame (s : State) (trunkIn exchangeIn : List Sample) : State :=
  let results := s.frameResults trunkIn exchangeIn
  { s with
    trunkOut := s.nextTrunkOut
    exchangeOut := s.nextExchangeOut
    nextTrunkOut := allPositions.map (trunkOutAt results exchangeIn)
    nextExchangeOut := allPositions.map (exchangeOutAt results trunkIn)
    records := results.map (·.record) }

/-- The frame counter advances (R34); at phase 63 block-end work becomes due. -/
def State.advancePhase (s : State) : State :=
  { s with phase := nextPhase s.phase, blockEndDue := nextPhase s.phase == 63 }

/-- One frame (R32, R34, R36, R101, R108). Block-end work that is still due comes before it (notes/assumptions/2.md). -/
def State.takeFrame (s : State) (trunkIn exchangeIn : List Sample) : State :=
  (((s.endBlock.advancePhase).workFrame trunkIn exchangeIn).accumulateSearches exchangeIn).endSearches

/-- FRAME_SYNC (R36). -/
def execFrameSync (trunkIn exchangeIn : List Sample) (s : State) : Host.Outcome State Fault Refusal :=
  whileRunning s fun s => s.takeFrame trunkIn exchangeIn

end Sys2Proof.Machine
end

