-- ==== Sys2Proof/Decode.lean ====
section
/-! DEFINITION. Decoding. The opcode table gives its rows no bits, so no word spells one (`decodeTableWord`). What the
manual does encode is the command frame: its command codes and parameters (R10, R180) and its layout (R176). -/

namespace Sys2Proof

open Sys2Proof.Machine

/-- The command that a word spells by the opcode table's bits. No row of spec/opcode_table.json gives any bits, so no
word spells a command. -/
def decodeTableWord (_nbits _w : Nat) : Option Instr := none

/-! ## Command codes and parameters (R180) -/

/-- The number of parameter bytes the command list gives for a code; none for a code not in the list (R180). -/
def parameterCount : Nat → Option Nat
  | 0x01 => some 5
  | 0x02 => some 2
  | 0x03 => some 10
  | 0x04 => some 3
  | 0x05 => some 2
  | 0x06 => some 3
  | 0x10 => some 2
  | 0x11 => some 3
  | 0x12 => some 1
  | 0x13 => some 4
  | 0x14 => some 3
  | 0x20 => some 1
  | 0x21 => some 37
  | 0x22 => some 1
  | 0x23 => some 8
  | 0x24 => some 2
  | 0x28 => some 0
  | 0x29 => some 0
  | 0x30 => some 0
  | 0x31 => some 1
  | 0x32 => some 1
  | 0x33 => some 4
  | 0x34 => some 0
  | 0x3F => some 0
  | _ => none

/-- What a command body is: a command, or refused for its code or its length (R180, steps 1 and 2). -/
inductive Decoded where
  | command (i : Instr)
  | unknownCommand
  | badLength
  deriving DecidableEq, Repr

/-- The command of a code and as many parameters as the list gives for it, in their order (R10, R180). -/
def commandOf : Nat → List Byte → Option Instr
  | 0x01, [i1, i0, p, n, m] => some (.attach (wordOf i1 i0) p n m)
  | 0x02, [i1, i0] => some (.detach (wordOf i1 i0))
  | 0x03, [i1, i0, m, f, n, a1, a0, b1, b0, g] => some (.modify (wordOf i1 i0) m f n (wordOf a1 a0) (wordOf b1 b0) g)
  | 0x04, [i1, i0, p] => some (.rebind (wordOf i1 i0) p)
  | 0x05, [a, b] => some (.moveLine a b)
  | 0x06, [i1, i0, l] => some (.research (wordOf i1 i0) l)
  | 0x10, [i1, i0] => some (.look (wordOf i1 i0))
  | 0x11, [i1, i0, x] => some (.lookWindow (wordOf i1 i0) x)
  | 0x12, [p] => some (.find p)
  | 0x13, [s, a, i1, i0] => some (.list s a (wordOf i1 i0))
  | 0x14, [i1, i0, a] => some (.ackAlarms (wordOf i1 i0) a)
  | 0x20, [n] => some (.profileRead n)
  | 0x21, n :: layout => if layout.length = 36 then some (.profileWrite n layout) else none
  | 0x22, [n] => some (.ruleRead n)
  | 0x23, [n, e, b1, b0, m1, m0, p, m] => some (.ruleWrite n e (wordOf b1 b0) (wordOf m1 m0) p m)
  | 0x24, [n, e] => some (.ruleEnable n e)
  | 0x28, [] => some .store
  | 0x29, [] => some .load
  | 0x30, [] => some .events
  | 0x31, [k] => some (.ackEvents k)
  | 0x32, [k] => some (.setMask k)
  | 0x33, [t, i1, i0, c] => some (.tally t (wordOf i1 i0) c)
  | 0x34, [] => some .ident
  | 0x3F, [] => some .restart
  | _, _ => none

/-- A command body decoded: its code first, then its length (R180). -/
def decodeCommand (code : Byte) (parameters : List Byte) : Decoded :=
  match parameterCount code.toNat with
  | none => .unknownCommand
  | some _ =>
    match commandOf code.toNat parameters with
    | some i => .command i
    | none => .badLength

/-- The code and parameters of a control line command; none for the steps that are no command (R180). -/
def encodeCommand : Instr → Option (Byte × List Byte)
  | .attach i p n m => some (0x01, wordBytes i ++ [p, n, m])
  | .detach i => some (0x02, wordBytes i)
  | .modify i m f n a b g => some (0x03, wordBytes i ++ [m, f, n] ++ wordBytes a ++ wordBytes b ++ [g])
  | .rebind i p => some (0x04, wordBytes i ++ [p])
  | .moveLine a b => some (0x05, [a, b])
  | .research i l => some (0x06, wordBytes i ++ [l])
  | .look i => some (0x10, wordBytes i)
  | .lookWindow i x => some (0x11, wordBytes i ++ [x])
  | .find p => some (0x12, [p])
  | .list s a i => some (0x13, [s, a] ++ wordBytes i)
  | .ackAlarms i a => some (0x14, wordBytes i ++ [a])
  | .profileRead n => some (0x20, [n])
  | .profileWrite n layout => some (0x21, n :: layout)
  | .ruleRead n => some (0x22, [n])
  | .ruleWrite n e b m p md => some (0x23, [n, e] ++ wordBytes b ++ wordBytes m ++ [p, md])
  | .ruleEnable n e => some (0x24, [n, e])
  | .store => some (0x28, [])
  | .load => some (0x29, [])
  | .events => some (0x30, [])
  | .ackEvents k => some (0x31, [k])
  | .setMask k => some (0x32, [k])
  | .tally t i c => some (0x33, [t] ++ wordBytes i ++ [c])
  | .ident => some (0x34, [])
  | .restart => some (0x3F, [])
  | .reset _ _ | .frameSync _ _ | .blockEnd | .promotion _ | .pathChange _ | .entryToBypass _ | .returnFromBypass _
  | .idleLapse _ | .searchComplete _ | .searchTimeout _ | .storeComplete _ | .commandFrameReceived _
  | .interByteGap _ _ | .overrun _ | .replySent | .characterFault _ | .powerLoss => none

/-! ## Frames (R176) -/

/-- The sync byte (R176). -/
def syncByte : Byte := 0xA5

/-- The sum of some bytes, modulo 256 (R176). -/
def byteSum (bytes : List Byte) : Byte := bytes.foldl (· + ·) 0

/-- A frame of a kind, an address and a body of code and parameters (or code, status and results), with its length and
check bytes (R176). -/
def frameBytes (kind address : BitVec 4) (body : List Byte) : List Byte :=
  let checked := [kind ++ address, byteOfNat body.length] ++ body
  [syncByte] ++ checked ++ [0 - byteSum checked]

/-- The command frame that carries a command to an address (R176, R180). -/
def commandFrame (address : BitVec 4) (i : Instr) : Option (List Byte) :=
  (encodeCommand i).map fun (code, parameters) => frameBytes 0x0 address (code :: parameters)

/-- The kind of a frame: the high four bits of byte 2 (R176). -/
def frameKind (bytes : List Byte) : BitVec 4 := (bytes.getD 1 0).extractLsb' 4 4

/-- The address of a frame: the low four bits of byte 2 (R176). -/
def frameAddress (bytes : List Byte) : BitVec 4 := (bytes.getD 1 0).extractLsb' 0 4

/-- The length byte of a frame (R176). -/
def frameLength (bytes : List Byte) : Nat := (bytes.getD 2 0).toNat

/-- The command code of a frame (R176). -/
def frameCode (bytes : List Byte) : Byte := bytes.getD 3 0

/-- The parameters of a frame: bytes 5 to 3 + n (R176). -/
def frameParameters (bytes : List Byte) : List Byte := (bytes.drop 4).take (frameLength bytes - 1)

end Sys2Proof
end

