-- ==== Sys2Proof/Machine/Queries.lean ====
section
/-! DEFINITION. What the commands that read the part answer: LOOK, LOOK_WINDOW, FIND, LIST (section 1.5), TALLY and IDENT
(chapter 12), EVENTS, ACK_EVENTS and SET_MASK (R182). -/

namespace Sys2Proof.Machine

/-- An accepted command that changes nothing. -/
def report (s : State) (results : List Byte) : Answer := { state := s, status := .ok, results := results }

/-- LOOK (R27). -/
def doLook (id : Identity) (s : State) : Answer :=
  match s.recordOf id with
  | none => refuse s .noRecord
  | some r => report s (lookBytes r (s.searchStatus id))

/-- LOOK_WINDOW (R28). -/
def doLookWindow (id : Identity) (index : Byte) (s : State) : Answer :=
  match s.recordOf id with
  | none => refuse s .noRecord
  | some r =>
    match r.held[index.toNat]? with
    | none => refuse s .badField
    | some w => report s (natBytes2 w.offset ++ w.coefficients.flatMap wordBytes)

/-- FIND (R29). -/
def doFind (position : Byte) (s : State) : Answer :=
  match parsePosition position with
  | none => refuse s .badPosition
  | some pos =>
    match s.recordAt pos with
    | none => refuse s .noRecord
    | some r => report s (wordBytes r.identity ++ [r.state.byte])

/-- Whether a record matches a LIST (R30). -/
def listMatches (states alarms : Byte) (r : Record) : Bool :=
  states &&& r.state.flag != 0 && (alarms == 0 || alarms &&& alarmByte r.alarms != 0)

/-- The identities of the matching records from a start identity on, in ascending order (R30). -/
def State.listed (s : State) (states alarms : Byte) (start : Identity) : List Identity :=
  ((s.records.filter fun r => listMatches states alarms r && decide (start ≤ r.identity)).map
    (·.identity)).insertionSort fun a b => a ≤ b

/-- LIST: the MORE flag, the count and up to 24 identities (R30). -/
def doList (states alarms : Byte) (start : Identity) (s : State) : Answer :=
  if states &&& 0xE0 ≠ 0 ∨ alarms &&& 0xF0 ≠ 0 then refuse s .badField
  else
    let ids := s.listed states alarms start
    report s ([boolByte (decide (24 < ids.length)), byteOfNat (ids.take 24).length] ++
      (ids.take 24).flatMap wordBytes)

/-- A record's tallies after a TALLY, zeroed on request (R185). -/
def clearTallies (clear : Bool) (r : Record) : Record := if clear then { r with tallies := {} } else r

/-- TALLY with its checks in their order (R185). -/
def doTally (selector : Byte) (id : Identity) (clear : Byte) (s : State) : Answer :=
  match parseBool selector, parseBool clear with
  | some false, some c =>
    match s.recordOf id with
    | none => refuse s .noRecord
    | some r => { state := s.update id (clearTallies c), status := .ok, results := r.tallies.bytes }
  | some true, some c =>
    { state := if c then { s with part := {} } else s, status := .ok, results := s.part.bytes }
  | _, _ => refuse s .badField

/-- IDENT (R186). -/
def doIdent (s : State) : Answer :=
  report s ([0x96, 0x01, s.port.address.setWidth 8] ++ natBytes2 s.store.wear ++
    [byteOfNat s.free, byteOfNat s.records.length, byteOfNat s.priorityLane.length, byteOfNat s.ordinaryLane.length])

/-- EVENTS (R182). -/
def doEvents (s : State) : Answer := report s [s.summary, s.mask]

/-- ACK_EVENTS (R182). DESIGN CHOICE (notes/assumptions/20.md): the summary of the reply is read at the removal, so no kind
that is raised after it is in the reply. -/
def doAckEvents (kinds : Byte) (s : State) : Answer :=
  { state := { s with summary := s.summary &&& ~~~kinds }, status := .ok, results := [s.summary &&& ~~~kinds] }

/-- SET_MASK (R182). -/
def doSetMask (kinds : Byte) (s : State) : Answer :=
  { state := { s with mask := kinds }, status := .ok, results := [kinds] }

end Sys2Proof.Machine
end

