-- ==== Sys2Proof/Machine/Records.lean ====
section
/-! DEFINITION. What the record commands that change the table do: ATTACH, DETACH, MODIFY, REBIND, MOVE_LINE, RESEARCH and
ACK_ALARMS (section 1.5). Each answers with the state it leaves, a status and its results. -/

namespace Sys2Proof.Machine

/-! ## ATTACH -/

/-- The seed of a record's noise register (R14, R133). -/
def noiseSeed (id : Identity) : BitVec 16 := if id ^^^ 0xACE1 = 0 then 1 else id ^^^ 0xACE1

/-- The state a record begins in (R14). -/
def Mode.startState : Mode → RecordState
  | .cancel => .settling
  | .transparent => .transparent

/-- A record as ATTACH creates it, before its claim and request (R3, R14). -/
def newRecord (id : Identity) (pos : Position) (number : ProfileNumber) (p : Profile) (mode : Mode) : Record where
  identity := id
  position := pos
  profile := number
  state := mode.startState
  resume := none
  freeze := false
  held := []
  unplaced := []
  history := List.replicate 1024 0
  talk := .idle
  nearHold := 0
  gainIn := clampNat p.gmin p.gmax 4096
  gainOut := clampNat p.gmin p.gmax 4096
  padIn := none
  padOut := none
  background := 0
  noise := noiseSeed id
  passCount := 0
  failCount := 0
  toneCount := 0
  quietCount := 0
  idleCount := 0
  lastResult := .noResult
  alarms := 0
  tallies := {}
  block := {}
  lastTin := 0
  lastXin := 0

/-- An identity matches a rule when it equals the base wherever the mask holds 0 (R168). -/
def ruleMatches (rule : RouteRule) (id : Identity) : Bool := (id ^^^ rule.base) &&& ~~~rule.mask == 0

/-- The profile and mode the route rules supply: those of the lowest-numbered enabled rule that matches, or profile 0
and CANCEL (R13, R168). -/
def routeChoice (settings : Settings) (id : Identity) : ProfileNumber × Mode :=
  match settings.rules.toList.find? (fun rule => rule.enabled && ruleMatches rule id) with
  | some rule => (rule.profile, rule.mode)
  | none => (0, .cancel)

/-- The profile and mode a new record takes (R13). -/
def chooseProfile (settings : Settings) (id : Identity) (profile : Option ProfileNumber) (mode : Option Mode) :
    ProfileNumber × Mode :=
  match profile with
  | some number => (number, mode.getD .cancel)
  | none => ((routeChoice settings id).1, mode.getD (routeChoice settings id).2)

/-- Whether a record holds the identity and is not the LAPSED record bound to the position (R11, check 4). -/
def State.isDuplicate (s : State) (id : Identity) (pos : Position) : Bool :=
  match s.recordOf id with
  | some r => !(r.state == .lapsed && r.position == pos)
  | none => false

/-- Whether a record that is not LAPSED holds the position (R11, check 5). -/
def State.isTaken (s : State) (pos : Position) : Bool :=
  match s.recordAt pos with
  | some r => r.state != .lapsed
  | none => false

/-- Whether there is no room for the record: 96 records, and none to be replaced (R11, check 6). -/
def State.isFull (s : State) (pos : Position) : Bool := decide (96 ≤ s.records.length) && (s.recordAt pos).isNone

/-- The LAPSED record at a position, if any, leaves the table (R12). -/
def State.retireAt (s : State) (pos : Position) : State :=
  match s.recordAt pos with
  | some r => ({ s with records := s.records.filter (·.position != pos) } : State).loseReference r.profile
  | none => s

/-- Cancellation begins: the provisional claim, and an ordinary request where the profile's search is on, under a
window limit of 1 or more (R15, R21). -/
def State.beginCancel (s : State) (id : Identity) (p : Profile) : State :=
  if 1 ≤ p.windowLimit then
    let s1 := s.claimProvisional id p.provisionalOffset
    if p.searchOn then s1.request .ordinary id else s1
  else s

/-- Whether beginning cancellation finds no window (R15). -/
def State.claimShort (s : State) (p : Profile) : Bool := decide (1 ≤ p.windowLimit) && s.free == 0

/-- A record enters the table (R13, R14). -/
def State.enter (s : State) (r : Record) : State :=
  ({ s with records := s.records ++ [r] } : State).gainReference r.profile

/-- ATTACH after its checks (R12 to R15). -/
def attachAt (id : Identity) (pos : Position) (choice : ProfileNumber × Mode) (s : State) : Answer :=
  let p := s.settings.profiles.get choice.1
  let s1 := (s.retireAt pos).enter (newRecord id pos choice.1 p choice.2)
  let cancel := choice.2 == .cancel
  { state := if cancel then s1.beginCancel id p else s1
    status := .ok
    results :=
      [indicateIf (s.recordAt pos).isSome .lapsedReplaced ||| indicateIf (cancel && s.claimShort p) .windowShort,
       byteOfNat choice.1.val, choice.2.byte] }

/-- A TABLE_FULL refusal raises the event and counts an attach refusal (R11, check 6). -/
def refuseFull (s : State) : Answer :=
  refuse (({ s with part := { s.part with attachRefusals := countUp s.part.attachRefusals } } : State).raise .tableFull)
    .tableFull

/-- ATTACH with its checks in their order (R11). -/
def doAttach (id : Identity) (position profile mode : Byte) (s : State) : Answer :=
  match parsePosition position, parseOptional profile parseProfileNumber, parseOptional mode parseMode with
  | none, _, _ => refuse s .badPosition
  | some _, none, _ => refuse s .badProfile
  | some _, some _, none => refuse s .badField
  | some pos, some number, some m =>
    if s.isDuplicate id pos then refuse s .duplicateCircuit
    else if s.isTaken pos then refuse s .slotTaken
    else if s.isFull pos then refuseFull s
    else attachAt id pos (chooseProfile s.settings id number m) s

/-! ## DETACH -/

/-- A record leaves the table with its windows, its place in the waiting list, its lane or slot and its profile
reference; grants follow, then the arbiter acts (R16). -/
def State.detachRecord (s : State) (r : Record) : State :=
  let s1 := (s.returnWindows r.identity).grantAll
  let s2 := ({ s1 with records := s1.records.filter (·.identity != r.identity) } : State).loseReference r.profile
  s2.cancelSearch r.identity

/-- DETACH (R16). -/
def doDetach (id : Identity) (s : State) : Answer :=
  match s.recordOf id with
  | none => refuse s .noRecord
  | some r =>
    { state := s.detachRecord r, status := .ok, results := [indicateIf (r.state == .lapsed) .wasLapsed] }

/-! ## MODIFY -/

/-- Both gains are clamped into a profile's limits (R19). -/
def clampGains (p : Profile) (r : Record) : Record :=
  { r with gainIn := clampNat p.gmin p.gmax r.gainIn, gainOut := clampNat p.gmin p.gmax r.gainOut }

/-- The trim to a window limit: unplaced offsets from the weakest end, then held windows from the largest offset (R19). -/
def trimRecord (limit : Nat) (r : Record) : Record :=
  { r with unplaced := r.unplaced.take (limit - r.held.length), held := r.held.take limit }

/-- The trim with the pool's part in it: released windows return, an emptied unplaced list leaves the waiting list, and
grants follow (R19, R123). -/
def State.trim (s : State) (r : Record) (limit : Nat) : State :=
  let s1 := s.update r.identity (trimRecord limit)
  let s2 := if (trimRecord limit r).unplaced = [] then s1.stopWaiting r.identity else s1
  let released := r.held.length - limit
  if released = 0 then s2 else ({ s2 with free := s2.free + released } : State).grantAll

/-- The profile change of MODIFY (R19). -/
def State.changeProfile (s : State) (r : Record) (number : ProfileNumber) : State :=
  if number = r.profile then s
  else
    let p := s.settings.profiles.get number
    (((s.loseReference r.profile).gainReference number).update r.identity fun q =>
      clampGains p { q with profile := number }).trim r p.windowLimit

/-- What MODIFY does to one pad override (R22). -/
def changePad (c : PadChange) (pad : Option Nat) : Option Nat :=
  match c with
  | .keep => pad
  | .clear => none
  | .set v => some v

/-- The gain reset, the pad overrides and freeze (R20, R22). -/
def changeLevels (p : Profile) (gainReset : Bool) (padIn padOut : PadChange) (freeze : Option Bool) (r : Record) :
    Record :=
  { r with
    gainIn := if gainReset then clampNat p.gmin p.gmax 4096 else r.gainIn
    gainOut := if gainReset then clampNat p.gmin p.gmax 4096 else r.gainOut
    padIn := changePad padIn r.padIn
    padOut := changePad padOut r.padOut
    freeze := freeze.getD r.freeze }

/-- The change to TRANSPARENT on the record; its windows go by the release (R21). -/
def transparentRecord (r : Record) : Record :=
  { r with
    state := .transparent, resume := none, passCount := 0, failCount := 0, toneCount := 0, quietCount := 0 }

/-- Mode TRANSPARENT on a record in SETTLING, CONVERGED or BYPASS (R21). -/
def State.makeTransparent (s : State) (id : Identity) : State :=
  ((s.update id transparentRecord).releaseAll id).cancelSearch id

/-- Mode CANCEL on a record in TRANSPARENT (R21). -/
def State.makeCancel (s : State) (id : Identity) (p : Profile) : State :=
  (s.update id fun r => { r with state := .settling }).beginCancel id p

/-- The mode change of MODIFY, and whether it claimed no window for lack of a free one (R21). -/
def State.changeMode (s : State) (id : Identity) (mode : Option Mode) : State × Bool :=
  match s.recordOf id, mode with
  | some r, some .transparent =>
    if r.state = .transparent ∨ r.state = .lapsed then (s, false) else (s.makeTransparent id, false)
  | some r, some .cancel =>
    if r.state = .transparent then (s.makeCancel id (s.profileOf r), s.claimShort (s.profileOf r)) else (s, false)
  | _, _ => (s, false)

/-- A MODIFY that has passed its checks applies its changes in their order (R18). -/
def modifyRecord (r : Record) (mode : Option Mode) (freeze : Option Bool) (number : Option ProfileNumber)
    (padIn padOut : PadChange) (gainReset : Bool) (s : State) : Answer :=
  let s1 := match number with
    | some n => s.changeProfile r n
    | none => s
  let inForce := s.settings.profiles.get (number.getD r.profile)
  let s2 := s1.update r.identity (changeLevels inForce gainReset padIn padOut freeze)
  let s3 := s2.changeMode r.identity mode
  { state := s3.1, status := .ok, results := [indicateIf s3.2 .windowShort] }

/-- MODIFY with its checks in their order (R18). -/
def doModify (id : Identity) (mode freeze profile : Byte) (padIn padOut : BitVec 16) (gainReset : Byte) (s : State) :
    Answer :=
  match parseOptional profile parseProfileNumber with
  | none => refuse s .badProfile
  | some number =>
    match parseOptional mode parseMode, parseOptional freeze parseBool, parseBool gainReset, parsePad padIn,
      parsePad padOut with
    | some m, some f, some g, some pin, some pout =>
      match s.recordOf id with
      | none => refuse s .noRecord
      | some r =>
        if r.state = .lapsed then refuse s .recordLapsed else modifyRecord r m f number pin pout g s
    | _, _, _, _, _ => refuse s .badField

/-! ## REBIND and MOVE_LINE -/

/-- A record that is not LAPSED as it reaches a new position (R23, R24, R42, R45, R74). -/
def rebindRecord (pos : Position) (r : Record) : Record :=
  { r with
    position := pos
    history := List.replicate 1024 0
    talk := .idle
    nearHold := 0
    state := if r.state = .converged then .settling else r.state
    passCount := if r.state = .converged then 0 else r.passCount
    failCount := if r.state = .converged then 0 else r.failCount
    block := {}
    lastTin := 0
    lastXin := 0 }

/-- The move of one record; a LAPSED one changes only its position (R24, R25). -/
def moveRecord (pos : Position) (r : Record) : Record :=
  if r.state = .lapsed then { r with position := pos } else rebindRecord pos r

/-- REBIND with its checks in their order (R23). -/
def doRebind (id : Identity) (position : Byte) (s : State) : Answer :=
  match parsePosition position with
  | none => refuse s .badPosition
  | some pos =>
    match s.recordOf id with
    | none => refuse s .noRecord
    | some r =>
      if r.state = .lapsed then refuse s .recordLapsed
      else if (s.recordAt pos).isSome then refuse s .slotTaken
      else { state := (s.update id (rebindRecord pos)).restartSearch id, status := .ok, results := [] }

/-- The line of a position (R33). -/
def lineOf (p : Position) : Nat := p.val / 32

/-- The position with the same slot on a line (R25, R33). -/
def sameSlotOn (line : Fin 4) (p : Position) : Position := ⟨line.val * 32 + p.val % 32, by omega⟩

/-- A running search of a record on the line is restarted in its slot (R24, R25, R112). -/
def State.restartLine (s : State) (line : Fin 4) (slots : List Slot) : List Slot :=
  slots.map fun sl =>
    match s.recordOf sl.identity with
    | some r => if lineOf r.position = line.val then freshSlot sl.identity else sl
    | none => sl

/-- The records on a line. -/
def State.onLine (s : State) (line : Fin 4) : List Record := s.records.filter fun r => lineOf r.position == line.val

/-- MOVE_LINE with its checks in their order: all records of the line move, or none (R25). -/
def doMoveLine (fromLine toLine : Byte) (s : State) : Answer :=
  match parseLine fromLine, parseLine toLine with
  | some a, some b =>
    if a = b then refuse s .badField
    else if (s.onLine a).any fun r => (s.recordAt (sameSlotOn b r.position)).isSome then refuse s .lineOccupied
    else
      { state :=
          { s with
            records := s.records.map fun r =>
              if lineOf r.position = a.val then moveRecord (sameSlotOn b r.position) r else r
            slots := s.restartLine a s.slots }
        status := .ok
        results := [byteOfNat (s.onLine a).length] }
  | _, _ => refuse s .badField

/-! ## RESEARCH and ACK_ALARMS -/

/-- RESEARCH with its checks in their order (R26). -/
def doResearch (id : Identity) (lane : Byte) (s : State) : Answer :=
  match parseLane lane with
  | none => refuse s .badField
  | some l =>
    match s.recordOf id with
    | none => refuse s .noRecord
    | some r =>
      if r.state = .lapsed then refuse s .recordLapsed
      else if r.state = .transparent ∨ r.state = .bypass then refuse s .wrongState
      else
        { state := s.request l id
          status := .ok
          results :=
            [indicateIf (s.searchStatus id != .noSearch) .alreadySearching, ((s.request l id).searchStatus id).byte] }

/-- ACK_ALARMS (R31). -/
def doAckAlarms (id : Identity) (alarms : Byte) (s : State) : Answer :=
  if alarms &&& 0xF0 ≠ 0 then refuse s .badField
  else
    match s.recordOf id with
    | none => refuse s .noRecord
    | some r =>
      let remaining := r.alarms &&& ~~~(alarms.setWidth 4)
      { state := s.update id fun q => { q with alarms := remaining }, status := .ok, results := [alarmByte remaining] }

end Sys2Proof.Machine
end

