-- ==== Sys2Proof/Machine/Store.lean ====
section
/-! DEFINITION. The Profile Table, the route rules and the Settings Store: PROFILE_READ, PROFILE_WRITE, RULE_READ,
RULE_WRITE, RULE_ENABLE, STORE, LOAD (chapter 11), RESTART (R187), and the events STORE_COMPLETE, RESET and POWER_LOSS. -/

namespace Sys2Proof.Machine

/-! ## Profiles -/

/-- The first pass of the clamping: each numeric field into its own range (R162, R167). -/
def clampFields (p : Profile) : Profile :=
  { p with
    provisionalOffset := clampNat 0 960 p.provisionalOffset
    windowLimit := clampNat 0 3 p.windowLimit
    stepExponent := clampNat 1 8 p.stepExponent
    regularisation := clampNat 1 65535 p.regularisation
    referenceFloor := clampNat 0 8191 p.referenceFloor
    speechFloor := clampNat 1 8191 p.speechFloor
    doubleTalkShift := clampNat 1 3 p.doubleTalkShift
    nearHold := clampNat 0 4095 p.nearHold
    suppressionDepth := clampNat 0 6 p.suppressionDepth
    padIn := clampNat 1024 16383 p.padIn
    padOut := clampNat 1024 16383 p.padOut
    bandLow := clampNat 0 32767 p.bandLow
    bandHigh := clampNat 0 32767 p.bandHigh
    gmin := clampNat 1024 16383 p.gmin
    gmax := clampNat 1024 16383 p.gmax
    toneFloor := clampNat 1 8191 p.toneFloor
    idleLimit := clampNat 0 600 p.idleLimit }

/-- The second pass: band high is raised to band low, and gmin lowered to gmax (R167). -/
def clampPairs (p : Profile) : Profile :=
  { p with bandHigh := max p.bandLow p.bandHigh, gmin := min p.gmin p.gmax }

/-- The clamping of a written profile (R167). -/
def clampProfile (p : Profile) : Profile := clampPairs (clampFields p)

/-- PROFILE_READ (R165). -/
def doProfileRead (number : Byte) (s : State) : Answer :=
  match parseProfileNumber number with
  | none => refuse s .badProfile
  | some n =>
    { state := s
      status := .ok
      results := [byteOfNat n.val, byteOfNat (s.refCounts.get n)] ++ profileBytes (s.settings.profiles.get n) }

/-- A working profile is replaced. -/
def State.setProfile (s : State) (n : ProfileNumber) (p : Profile) : State :=
  { s with settings := { s.settings with profiles := s.settings.profiles.set n.val p n.isLt } }

/-- PROFILE_WRITE with its checks in their order; a parameter count other than 37 is a bad length (R166, R167, R180). -/
def doProfileWrite (number : Byte) (layout : List Byte) (s : State) : Answer :=
  if layout.length ≠ 36 then refuse s .badLength
  else
    match parseProfileNumber number with
    | none => refuse s .badProfile
    | some n =>
      if !layoutFlagsValid layout then refuse s .badField
      else if s.refCounts.get n ≠ 0 then refuse s .profileInUse
      else
        let written := layoutProfile layout
        { state := s.setProfile n (clampProfile written)
          status := if clampProfile written = written then .ok else .clamped
          results := [] }

/-! ## Route rules -/

/-- A working rule is replaced. -/
def State.setRule (s : State) (n : RuleNumber) (rule : RouteRule) : State :=
  { s with settings := { s.settings with rules := s.settings.rules.set n.val rule n.isLt } }

/-- RULE_READ (R169). -/
def doRuleRead (number : Byte) (s : State) : Answer :=
  match parseRuleNumber number with
  | none => refuse s .badField
  | some n => { state := s, status := .ok, results := [byteOfNat n.val] ++ ruleBytes (s.settings.rules.get n) }

/-- RULE_ENABLE (R169). -/
def doRuleEnable (number setting : Byte) (s : State) : Answer :=
  match parseRuleNumber number, parseBool setting with
  | some n, some on =>
    { state := s.setRule n { s.settings.rules.get n with enabled := on }, status := .ok, results := [] }
  | _, _ => refuse s .badField

/-- RULE_WRITE with its checks in their order (R170). -/
def doRuleWrite (number enabled : Byte) (base mask : BitVec 16) (profile mode : Byte) (s : State) : Answer :=
  match parseRuleNumber number, parseProfileNumber profile, parseBool enabled, parseMode mode with
  | none, _, _, _ => refuse s .badField
  | some _, none, _, _ => refuse s .badProfile
  | some n, some p, some on, some m =>
    let held := s.settings.rules.get n
    let written : RouteRule := { enabled := on, base := base, mask := mask, profile := p, mode := m }
    if held.enabled && !decide (written = { held with enabled := false }) then refuse s .ruleEnabled
    else { state := s.setRule n written, status := .ok, results := [] }
  | some _, some _, _, _ => refuse s .badField

/-! ## The settings store -/

/-- STORE with its checks (R172). DESIGN CHOICE (notes/assumptions/19.md): while the 2000th STORE is in flight, where R172
gives both refusals, the check for BUSY comes first. DESIGN CHOICE (notes/assumptions/22.md): the store's profiles and
rules keep the contents before the write for as long as the STORE is in flight, since R173 gives none for that time. -/
def doStore (s : State) : Answer :=
  if s.store.inFlight.isSome then refuse s .busy
  else if 2000 ≤ s.store.wear then refuse s .storeWorn
  else
    { state :=
        { s with
          store := { s.store with wear := s.store.wear + 1, valid := false, inFlight := some s.settings } }
      status := .accepted
      results := [] }

/-- The working copies are set from the store, or to factory values with STORE_BAD (R174, R175). -/
def State.loadWorking (s : State) : State :=
  if s.store.valid then { s with settings := s.store.contents }
  else ({ s with settings := factorySettings } : State).raise .storeBad

/-- LOAD with its checks in their order (R174). -/
def doLoad (s : State) : Answer :=
  if s.records ≠ [] then refuse s .recordsLive
  else if s.store.inFlight.isSome then refuse s .busy
  else { state := s.loadWorking, status := .ok, results := [boolByte (!s.store.valid)] }

/-- The write in flight ends without a verified result: the check is invalid, and what the contents are is a free value
(R173; notes/assumptions/5.md). -/
def State.tearStore (s : State) (snapshot : Settings) : State :=
  { s with
    store :=
      { s.store with
        contents := Config.tornContents s.freeIndex s.store.contents snapshot, valid := false, inFlight := none }
    freeIndex := s.freeIndex + 1 }

/-- The write in flight is verified: the store holds the snapshot and the check is valid (R173). -/
def State.commitStore (s : State) (snapshot : Settings) : State :=
  { s with store := { s.store with contents := snapshot, valid := true, inFlight := none } }

/-- The STORE in flight ends (R173); without one there is nothing to end. -/
def State.completeStore (s : State) (verified : Bool) : State :=
  match s.store.inFlight with
  | none => s
  | some snapshot =>
    if verified then (s.commitStore snapshot).raise .storeDone else (s.tearStore snapshot).raise .storeFailed

/-- A write in flight is cut where it stands (R173). -/
def State.cutStore (s : State) : State :=
  match s.store.inFlight with
  | none => s
  | some snapshot => s.tearStore snapshot

/-! ## RESTART, RESET and POWER_LOSS -/

/-- What RESTART does (R187). -/
def State.restartPart (s : State) : State :=
  { s with
    records := []
    priorityLane := []
    ordinaryLane := []
    slots := []
    free := 144
    waiting := []
    refCounts := Vector.replicate 8 0
    part := {}
    summary := EventKind.restarted.flag }

/-- RESTART (R187). -/
def doRestart (s : State) : Answer := { state := s.restartPart, status := .ok, results := [] }

/-- The rate that the RATE pin selects (R176). -/
def rateOf (ratePin : Bool) : LineRate := if ratePin then .baud115200 else .baud19200

/-- Power-up or external reset under a unit address and a rate: every volatile piece of state at its reset value, the
store kept with a write in flight cut, and the working copies loaded (R2, R32, R34, R116, R118, R173, R175, R181,
R184). -/
def State.resetPart (s : State) (address : BitVec 4) (rate : LineRate) : State :=
  ({ State.reset with
      summary := EventKind.restarted.flag
      store := s.cutStore.store
      freeIndex := s.cutStore.freeIndex
      pending := s.pending
      port := { State.reset.port with address := address, rate := rate } } : State).loadWorking

/-- STORE_COMPLETE (R173). -/
def execStoreComplete (verified : Bool) (s : State) : Host.Outcome State Fault Refusal :=
  whileRunning s fun s => s.completeStore verified

/-- What RESET leaves: the part stays in reset while the pin is held, and runs with the address and RATE pins sampled when
it is released (R176, R183; notes/assumptions/17.md). -/
def State.takeReset (s : State) (pin : ResetPin) (straps : StrapPins) : State :=
  match pin with
  | .held => { s.resetPart s.port.address s.port.rate with resetHeld := true }
  | .released => s.resetPart straps.address (rateOf straps.rate)

/-- RESET (R175): a power-up or an external reset, so the supply is present after it. -/
def execReset (pin : ResetPin) (straps : StrapPins) (s : State) : Host.Outcome State Fault Refusal :=
  .next (s.takeReset pin straps)

/-- POWER_LOSS (R173): the write in flight is cut; the part does nothing until the RESET of the next power-up
(notes/assumptions/6.md). -/
def execPowerLoss (s : State) : Host.Outcome State Fault Refusal :=
  .next (if s.powered then { s.cutStore with powered := false } else s)

end Sys2Proof.Machine
end

