-- ==== Sys2Proof/Machine/Line.lean ====
section
/-! DEFINITION. The Control Line Port: hearing a byte, judging a frame, carrying out and answering a command (R176 to R180),
and the meanings of the control line's rows. -/

namespace Sys2Proof.Machine

/-! ## Carrying out and answering -/

/-- The effect and the answer of a control line command. The port hands over commands only; any other step would be an
unknown command. -/
def carryOut (i : Instr) (s : State) : Answer :=
  match i with
  | .attach id position profile mode => doAttach id position profile mode s
  | .detach id => doDetach id s
  | .modify id mode freeze profile padIn padOut gainReset => doModify id mode freeze profile padIn padOut gainReset s
  | .rebind id position => doRebind id position s
  | .moveLine fromLine toLine => doMoveLine fromLine toLine s
  | .research id lane => doResearch id lane s
  | .look id => doLook id s
  | .lookWindow id index => doLookWindow id index s
  | .find position => doFind position s
  | .list states alarms start => doList states alarms start s
  | .ackAlarms id alarms => doAckAlarms id alarms s
  | .profileRead number => doProfileRead number s
  | .profileWrite number layout => doProfileWrite number layout s
  | .ruleRead number => doRuleRead number s
  | .ruleWrite number enabled base mask profile mode => doRuleWrite number enabled base mask profile mode s
  | .ruleEnable number setting => doRuleEnable number setting s
  | .store => doStore s
  | .load => doLoad s
  | .events => doEvents s
  | .ackEvents kinds => doAckEvents kinds s
  | .setMask kinds => doSetMask kinds s
  | .tally selector id clear => doTally selector id clear s
  | .ident => doIdent s
  | .restart => doRestart s
  | .reset _ _ | .frameSync _ _ | .blockEnd | .promotion _ | .pathChange _ | .entryToBypass _ | .returnFromBypass _
  | .idleLapse _ | .searchComplete _ | .searchTimeout _ | .storeComplete _ | .commandFrameReceived _
  | .interByteGap _ _ | .overrun _ | .replySent | .characterFault _ | .powerLoss => refuse s .unknownCommand

/-- The reply frame of an answer: the code, the status as byte 5, the results, the unit's own address (R176, R180). -/
def replyFrame (address : BitVec 4) (code : Byte) (status : Status) (results : List Byte) : List Byte :=
  frameBytes 0x8 address (code :: status.byte :: results)

/-- The reply to an answered command; the unit is busy until it is sent (R178). A part whose pins gave 15 answers no
frame (R176). -/
def respond (code : Byte) (a : Answer) : State :=
  if a.state.port.address = 15 then a.state
  else
    { a.state with
      port :=
        { a.state.port with reply := some (replyFrame a.state.port.address code a.status a.results) } }

/-- A command row: the command taken as an addressed one, carried out and answered (R180; notes/assumptions/7.md). -/
def takeCommand (code : Byte) (act : State → Answer) (s : State) : Host.Outcome State Fault Refusal :=
  whileRunning s fun s => respond code (act s)

/-! ## The port -/

/-- The port goes over to another side of hearing. -/
def State.setHearing (s : State) (h : Hearing) : State := { s with port := { s.port with hearing := h } }

/-- The unit is busy while a reply is being sent (R178). -/
def State.isBusy (s : State) : Bool := s.port.reply.isSome

/-- A line fault: the part tally counts one, LINE_FAULT is raised, and the port hunts again (R177). -/
def State.lineFault (s : State) : State :=
  (({ s with part := { s.part with lineFaults := countUp s.part.lineFaults } } : State).raise .lineFault).setHearing
    .hunting

/-- The commands that a broadcast may carry (R179). -/
def isBroadcastCode (code : Byte) : Bool :=
  code == 0x21 || code == 0x23 || code == 0x24 || code == 0x28 || code == 0x29 || code == 0x3F || code == 0x31 ||
    code == 0x32

/-- A broadcast is carried out by its code and with its checks, and not answered (R179). -/
def State.takeBroadcast (s : State) (code : Byte) (parameters : List Byte) : State :=
  if isBroadcastCode code then
    match decodeCommand code parameters with
    | .command i => (carryOut i s).state
    | .unknownCommand => s
    | .badLength => s
  else s

/-- An addressed command is taken: code, parameter count, the command's own checks, its reply (R180). -/
def State.takeAddressed (s : State) (code : Byte) (parameters : List Byte) : State :=
  match decodeCommand code parameters with
  | .command i => respond code (carryOut i s)
  | .unknownCommand => respond code (refuse s .unknownCommand)
  | .badLength => respond code (refuse s .badLength)

/-- A whole frame is judged: check, then kind, then address (R177). -/
def State.judgeFrame (s : State) (bytes : List Byte) : State :=
  if byteSum (bytes.drop 1) ≠ 0 then s.lineFault
  else if frameKind bytes ≠ 0 then s.setHearing .hunting
  else if frameAddress bytes = 15 then (s.setHearing .hunting).takeBroadcast (frameCode bytes) (frameParameters bytes)
  else if frameAddress bytes = s.port.address then
    (s.setHearing .hunting).takeAddressed (frameCode bytes) (frameParameters bytes)
  else s.setHearing .hunting

/-- How far the bytes of a frame have come (R176, R177). -/
inductive FrameProgress where
  | more | badLength | complete
  deriving DecidableEq, Repr

/-- The length is judged at byte 3, and the frame is complete at byte 4 + n (R176, R177). -/
def frameProgress (bytes : List Byte) : FrameProgress :=
  if bytes.length < 3 then .more
  else if frameLength bytes = 0 ∨ 200 < frameLength bytes then .badLength
  else if bytes.length < frameLength bytes + 4 then .more
  else .complete

/-- The port hears one byte (R177, R178). -/
def State.hear (s : State) (b : Byte) : State :=
  match s.port.hearing with
  | .hunting =>
    if b = syncByte then
      if s.isBusy then
        ({ s with part := { s.part with overruns := countUp s.part.overruns } } : State).setHearing (.discarding [b])
      else s.setHearing (.assembling [b])
    else s
  | .assembling bytes =>
    match frameProgress (bytes ++ [b]) with
    | .more => s.setHearing (.assembling (bytes ++ [b]))
    | .badLength => s.lineFault
    | .complete => s.judgeFrame (bytes ++ [b])
  | .discarding bytes =>
    match frameProgress (bytes ++ [b]) with
    | .more => s.setHearing (.discarding (bytes ++ [b]))
    | .badLength => s.setHearing .hunting
    | .complete => s.setHearing .hunting

/-- The port hears some bytes, one after another. -/
def State.hearAll (s : State) (bytes : List Byte) : State := bytes.foldl State.hear s

/-- A frame broken off by a gap or a character fault: a line fault, or the end of a discarded frame without count; a
hunting port passes over it (R177, R178). -/
def State.breakFrame (s : State) : State :=
  match s.port.hearing with
  | .hunting => s
  | .assembling _ => s.lineFault
  | .discarding _ => s.setHearing .hunting

/-! ## The line's own steps -/

/-- COMMAND_FRAME_RECEIVED (R177). -/
def execCommandFrameReceived (bytes : List Byte) (s : State) : Host.Outcome State Fault Refusal :=
  whileRunning s fun s => s.hearAll bytes

/-- INTER_BYTE_GAP: after the gap the byte that ended it is examined as a possible sync byte (R177). -/
def execInterByteGap (heard : List Byte) (next : Byte) (s : State) : Host.Outcome State Fault Refusal :=
  whileRunning s fun s => ((s.hearAll heard).breakFrame).hear next

/-- CHARACTER_FAULT (R177). -/
def execCharacterFault (heard : List Byte) (s : State) : Host.Outcome State Fault Refusal :=
  whileRunning s fun s => (s.hearAll heard).breakFrame

/-- OVERRUN: the sync byte and the rest of a frame arrive while the unit is busy (R178). A unit that is not busy has no
overrun (notes/assumptions/8.md). -/
def execOverrun (rest : List Byte) (s : State) : Host.Outcome State Fault Refusal :=
  whileRunning s fun s => if s.isBusy then s.hearAll (syncByte :: rest) else s

/-- REPLY_SENT (R178). -/
def execReplySent (s : State) : Host.Outcome State Fault Refusal :=
  whileRunning s fun s => { s with port := { s.port with reply := none } }

/-! ## The command rows -/

/-- ATTACH (R11 to R15). -/
def execAttach (id : Identity) (position profile mode : Byte) (s : State) : Host.Outcome State Fault Refusal :=
  takeCommand 0x01 (doAttach id position profile mode) s

/-- DETACH (R16). -/
def execDetach (id : Identity) (s : State) : Host.Outcome State Fault Refusal := takeCommand 0x02 (doDetach id) s

/-- MODIFY (R18 to R22). -/
def execModify (id : Identity) (mode freeze profile : Byte) (padIn padOut : BitVec 16) (gainReset : Byte)
    (s : State) : Host.Outcome State Fault Refusal :=
  takeCommand 0x03 (doModify id mode freeze profile padIn padOut gainReset) s

/-- REBIND (R23, R24). -/
def execRebind (id : Identity) (position : Byte) (s : State) : Host.Outcome State Fault Refusal :=
  takeCommand 0x04 (doRebind id position) s

/-- MOVE_LINE (R25). -/
def execMoveLine (fromLine toLine : Byte) (s : State) : Host.Outcome State Fault Refusal :=
  takeCommand 0x05 (doMoveLine fromLine toLine) s

/-- RESEARCH (R26). -/
def execResearch (id : Identity) (lane : Byte) (s : State) : Host.Outcome State Fault Refusal :=
  takeCommand 0x06 (doResearch id lane) s

/-- LOOK (R27). -/
def execLook (id : Identity) (s : State) : Host.Outcome State Fault Refusal := takeCommand 0x10 (doLook id) s

/-- LOOK_WINDOW (R28). -/
def execLookWindow (id : Identity) (index : Byte) (s : State) : Host.Outcome State Fault Refusal :=
  takeCommand 0x11 (doLookWindow id index) s

/-- FIND (R29). -/
def execFind (position : Byte) (s : State) : Host.Outcome State Fault Refusal := takeCommand 0x12 (doFind position) s

/-- LIST (R30). -/
def execList (states alarms : Byte) (start : Identity) (s : State) : Host.Outcome State Fault Refusal :=
  takeCommand 0x13 (doList states alarms start) s

/-- ACK_ALARMS (R31). -/
def execAckAlarms (id : Identity) (alarms : Byte) (s : State) : Host.Outcome State Fault Refusal :=
  takeCommand 0x14 (doAckAlarms id alarms) s

/-- PROFILE_READ (R165). -/
def execProfileRead (number : Byte) (s : State) : Host.Outcome State Fault Refusal :=
  takeCommand 0x20 (doProfileRead number) s

/-- PROFILE_WRITE (R166, R167). -/
def execProfileWrite (number : Byte) (layout : List Byte) (s : State) : Host.Outcome State Fault Refusal :=
  takeCommand 0x21 (doProfileWrite number layout) s

/-- RULE_READ (R169). -/
def execRuleRead (number : Byte) (s : State) : Host.Outcome State Fault Refusal :=
  takeCommand 0x22 (doRuleRead number) s

/-- RULE_WRITE (R170). -/
def execRuleWrite (number enabled : Byte) (base mask : BitVec 16) (profile mode : Byte) (s : State) :
    Host.Outcome State Fault Refusal :=
  takeCommand 0x23 (doRuleWrite number enabled base mask profile mode) s

/-- RULE_ENABLE (R169). -/
def execRuleEnable (number setting : Byte) (s : State) : Host.Outcome State Fault Refusal :=
  takeCommand 0x24 (doRuleEnable number setting) s

/-- STORE (R172). -/
def execStore (s : State) : Host.Outcome State Fault Refusal := takeCommand 0x28 doStore s

/-- LOAD (R174). -/
def execLoad (s : State) : Host.Outcome State Fault Refusal := takeCommand 0x29 doLoad s

/-- EVENTS (R182). -/
def execEvents (s : State) : Host.Outcome State Fault Refusal := takeCommand 0x30 doEvents s

/-- ACK_EVENTS (R182). -/
def execAckEvents (kinds : Byte) (s : State) : Host.Outcome State Fault Refusal :=
  takeCommand 0x31 (doAckEvents kinds) s

/-- SET_MASK (R182). -/
def execSetMask (kinds : Byte) (s : State) : Host.Outcome State Fault Refusal := takeCommand 0x32 (doSetMask kinds) s

/-- TALLY (R185). -/
def execTally (selector : Byte) (id : Identity) (clear : Byte) (s : State) : Host.Outcome State Fault Refusal :=
  takeCommand 0x33 (doTally selector id clear) s

/-- IDENT (R186). -/
def execIdent (s : State) : Host.Outcome State Fault Refusal := takeCommand 0x34 doIdent s

/-- RESTART (R187). -/
def execRestart (s : State) : Host.Outcome State Fault Refusal := takeCommand 0x3F doRestart s

end Sys2Proof.Machine
end

