-- ==== Sys2Proof/Machine/Dispatch.lean ====
section
/-! DEFINITION. The dispatch: one arm per row of the opcode table, each one call of that row's meaning. -/

namespace Sys2Proof.Machine

/-- A step's effect on everything but the queue. -/
def exec (i : Instr) (s : State) : Host.Outcome State Fault Refusal :=
  match i with
  | .reset pin straps => Sys2Proof.Machine.execReset pin straps s
  | .frameSync trunkIn exchangeIn => Sys2Proof.Machine.execFrameSync trunkIn exchangeIn s
  | .blockEnd => Sys2Proof.Machine.execBlockEnd s
  | .promotion identity => Sys2Proof.Machine.execPromotion identity s
  | .pathChange identity => Sys2Proof.Machine.execPathChange identity s
  | .entryToBypass identity => Sys2Proof.Machine.execEntryToBypass identity s
  | .returnFromBypass identity => Sys2Proof.Machine.execReturnFromBypass identity s
  | .idleLapse identity => Sys2Proof.Machine.execIdleLapse identity s
  | .searchComplete identity => Sys2Proof.Machine.execSearchComplete identity s
  | .searchTimeout identity => Sys2Proof.Machine.execSearchTimeout identity s
  | .storeComplete verified => Sys2Proof.Machine.execStoreComplete verified s
  | .commandFrameReceived bytes => Sys2Proof.Machine.execCommandFrameReceived bytes s
  | .interByteGap heard next => Sys2Proof.Machine.execInterByteGap heard next s
  | .overrun rest => Sys2Proof.Machine.execOverrun rest s
  | .replySent => Sys2Proof.Machine.execReplySent s
  | .attach identity position profile mode => Sys2Proof.Machine.execAttach identity position profile mode s
  | .detach identity => Sys2Proof.Machine.execDetach identity s
  | .modify identity mode freeze profile padIn padOut gainReset => Sys2Proof.Machine.execModify identity mode freeze profile padIn padOut gainReset s
  | .rebind identity position => Sys2Proof.Machine.execRebind identity position s
  | .moveLine fromLine toLine => Sys2Proof.Machine.execMoveLine fromLine toLine s
  | .research identity lane => Sys2Proof.Machine.execResearch identity lane s
  | .look identity => Sys2Proof.Machine.execLook identity s
  | .lookWindow identity index => Sys2Proof.Machine.execLookWindow identity index s
  | .find position => Sys2Proof.Machine.execFind position s
  | .list states alarms start => Sys2Proof.Machine.execList states alarms start s
  | .ackAlarms identity alarms => Sys2Proof.Machine.execAckAlarms identity alarms s
  | .profileRead number => Sys2Proof.Machine.execProfileRead number s
  | .profileWrite number layout => Sys2Proof.Machine.execProfileWrite number layout s
  | .ruleRead number => Sys2Proof.Machine.execRuleRead number s
  | .ruleWrite number enabled base mask profile mode => Sys2Proof.Machine.execRuleWrite number enabled base mask profile mode s
  | .ruleEnable number setting => Sys2Proof.Machine.execRuleEnable number setting s
  | .store => Sys2Proof.Machine.execStore s
  | .load => Sys2Proof.Machine.execLoad s
  | .events => Sys2Proof.Machine.execEvents s
  | .ackEvents kinds => Sys2Proof.Machine.execAckEvents kinds s
  | .setMask kinds => Sys2Proof.Machine.execSetMask kinds s
  | .tally selector identity clear => Sys2Proof.Machine.execTally selector identity clear s
  | .ident => Sys2Proof.Machine.execIdent s
  | .restart => Sys2Proof.Machine.execRestart s
  | .characterFault heard => Sys2Proof.Machine.execCharacterFault heard s
  | .powerLoss => Sys2Proof.Machine.execPowerLoss s

end Sys2Proof.Machine
end

