-- ==== Sys2Proof/Safety.lean ====
section
/-! DEFINITION. What a sound state of the ZE96 is: the conditions the manual says hold at every moment, each a decidable
condition on the state alone. -/

namespace Sys2Proof.Machine

/-! ## Settings -/

/-- Every field of a profile lies in its range, and the two pairs are consistent (R162, R167). -/
def Profile.inRange (p : Profile) : Bool :=
  decide (
  p.provisionalOffset ≤ 960 ∧ p.windowLimit ≤ 3 ∧ (1 ≤ p.stepExponent ∧ p.stepExponent ≤ 8) ∧
  (1 ≤ p.regularisation ∧ p.regularisation ≤ 65535) ∧ p.referenceFloor ≤ 8191 ∧
  (1 ≤ p.speechFloor ∧ p.speechFloor ≤ 8191) ∧ (1 ≤ p.doubleTalkShift ∧ p.doubleTalkShift ≤ 3) ∧
  p.nearHold ≤ 4095 ∧ p.suppressionDepth ≤ 6 ∧ (1024 ≤ p.padIn ∧ p.padIn ≤ 16383) ∧
  (1024 ≤ p.padOut ∧ p.padOut ≤ 16383) ∧ (p.bandLow ≤ p.bandHigh ∧ p.bandHigh ≤ 32767) ∧
  (1024 ≤ p.gmin ∧ p.gmin ≤ p.gmax ∧ p.gmax ≤ 16383) ∧ (1 ≤ p.toneFloor ∧ p.toneFloor ≤ 8191) ∧ p.idleLimit ≤ 600)

/-- `Profile.inRange` as a proposition. -/
abbrev Profile.InRange (p : Profile) : Prop := p.inRange = true

/-- Every profile of the settings lies in range (R162). -/
abbrev Settings.InRange (c : Settings) : Prop := ∀ n : ProfileNumber, (c.profiles.get n).InRange

/-- The working profiles, the snapshot of a STORE in flight, and the store's contents while its check is valid lie in
range (R162, R171). -/
abbrev State.SettingsSound (s : State) : Prop :=
  s.settings.InRange ∧ (s.store.valid = true → s.store.contents.InRange) ∧
  (∀ c ∈ s.store.inFlight, c.InRange)

/-- The wear count never exceeds 2000, and while a STORE is in flight the store check is invalid (R171, R172). -/
abbrev State.StoreSound (s : State) : Prop :=
  s.store.wear ≤ 2000 ∧ (s.store.inFlight ≠ none → s.store.valid = false)

/-! ## The table -/

/-- At most 96 records, no two with the same identity and no two with the same position (R1). -/
abbrev State.TableSound (s : State) : Prop :=
  s.records.length ≤ 96 ∧ (s.records.map (·.identity)).Nodup ∧ (s.records.map (·.position)).Nodup

/-- Each profile's reference count is the number of records that name it (R163). -/
abbrev State.ReferencesSound (s : State) : Prop :=
  ∀ n : ProfileNumber, s.refCounts.get n = s.records.countP (fun r => r.profile == n)

/-! ## The pool -/

/-- The number of windows that all records hold. -/
def State.heldWindows (s : State) : Nat := (s.records.map fun r => r.held.length).sum

/-- The windows held by all records and the free windows number exactly 144 (R118). -/
abbrev State.PoolSound (s : State) : Prop := s.free + s.heldWindows = 144

/-- The waiting list names, once each, exactly the records whose unplaced list is present, and while a window is free
no record waits (R119). -/
abbrev State.WaitingSound (s : State) : Prop :=
  s.waiting.Nodup ∧
  s.waiting ⊆ (s.records.filter fun r => r.unplaced ≠ []).map (·.identity) ∧
  (∀ r ∈ s.records, r.unplaced ≠ [] → r.identity ∈ s.waiting) ∧
  (s.free = 0 ∨ s.waiting = [])

/-! ## The search unit -/

/-- The identities that stand in the slots and lanes. -/
def State.searching (s : State) : List Identity :=
  s.slots.map (·.identity) ++ s.priorityLane ++ s.ordinaryLane

/-- At most four records are RUNNING, a record stands in at most one place, every entry is a record in SETTLING or
CONVERGED, and while a slot is free both lanes are empty (R95, R97). -/
abbrev State.SearchSound (s : State) : Prop :=
  s.slots.length ≤ 4 ∧ s.searching.Nodup ∧
  s.searching ⊆ (s.records.filter fun r => cancels r.state).map (·.identity) ∧
  (s.slots.length < 4 → s.priorityLane = [] ∧ s.ordinaryLane = [])

/-- A search slot has 1024 accumulators and counts below those at which its search ends (R96, R103, R110). -/
def Slot.sound (sl : Slot) : Bool :=
  decide (
  sl.correlation.length = 1024 ∧ sl.qualifying < 2048 ∧ sl.elapsed < 16000)

/-- `Slot.sound` as a proposition. -/
abbrev Slot.Sound (sl : Slot) : Prop := sl.sound = true

/-! ## Records -/

/-- Held windows: at most three, each of 64 taps within the span, in ascending offset order without overlap (R4, R49). -/
abbrev heldSound (held : List Window) : Prop :=
  held.length ≤ 3 ∧ (∀ w ∈ held, w.offset ≤ 960 ∧ w.coefficients.length = 64) ∧
  held.Pairwise (fun a b => a.offset + 63 < b.offset)

/-- The model of a record: its windows, no more of them with its unplaced offsets than its profile's limit, no two of
these overlapping, and a history of 1024 samples (R4, R42). -/
def Record.modelSound (p : Profile) (r : Record) : Bool :=
  decide (
  heldSound r.held ∧ r.held.length + r.unplaced.length ≤ p.windowLimit ∧
  (r.held.map (·.offset) ++ r.unplaced).Pairwise (fun a b => windowsOverlap a b = false) ∧
  (∀ o ∈ r.unplaced, o ≤ 960) ∧ r.history.length = 1024)

/-- `Record.modelSound` as a proposition. -/
abbrev Record.ModelSound (p : Profile) (r : Record) : Prop := r.modelSound p = true

/-- What a record's state says of its fields: the resume state is present exactly in BYPASS, and a TRANSPARENT or LAPSED
record has no window and no unplaced offset (R4, R6). -/
def Record.stateSound (r : Record) : Bool :=
  decide (
  (r.resume.isSome = true ↔ r.state = .bypass) ∧
  ((r.state = .transparent ∨ r.state = .lapsed) → r.held = [] ∧ r.unplaced = []))

/-- `Record.stateSound` as a proposition. -/
abbrev Record.StateSound (r : Record) : Prop := r.stateSound = true

/-- The counts of a record lie below the values at which they act; a record that is SETTLING, or returns to it, has fail
count 0 and a pass count below 4; a TRANSPARENT record's counts are 0 (R3, R21, R84, R85, R92, R152, R154, R156). -/
def Record.countsSound (r : Record) : Bool :=
  decide (
  r.passCount ≤ 4 ∧ r.failCount < 8 ∧ r.toneCount ≤ 50 ∧ r.quietCount < 32 ∧
  (r.state = .settling ∨ (r.state = .bypass ∧ r.resume = some .settling) → r.passCount < 4 ∧ r.failCount = 0) ∧
  (cancels r.state = true → r.toneCount < 50) ∧
  (r.state = .transparent → r.passCount = 0 ∧ r.failCount = 0 ∧ r.toneCount = 0 ∧ r.quietCount = 0) ∧
  r.idleCount ≤ 75000 ∧ (r.state ≠ .lapsed → r.idleCount < 75000) ∧
  r.nearHold ≤ 4095 ∧ r.background ≤ 8191 ∧ r.noise ≠ 0)

/-- `Record.countsSound` as a proposition. -/
abbrev Record.CountsSound (r : Record) : Prop := r.countsSound = true

/-- A record's gains lie within its profile's limits, and its pad overrides within 1024..16383 (R3, R141). -/
def Record.levelsSound (p : Profile) (r : Record) : Bool :=
  decide (
  (p.gmin ≤ r.gainIn ∧ r.gainIn ≤ p.gmax) ∧ (p.gmin ≤ r.gainOut ∧ r.gainOut ≤ p.gmax) ∧
  (∀ v ∈ r.padIn, 1024 ≤ v ∧ v ≤ 16383) ∧ (∀ v ∈ r.padOut, 1024 ≤ v ∧ v ≤ 16383))

/-- `Record.levelsSound` as a proposition. -/
abbrev Record.LevelsSound (p : Profile) (r : Record) : Prop := r.levelsSound p = true

/-- A record's seven tallies are 16-bit counts (R5). -/
def Tallies.sound (t : Tallies) : Bool :=
  decide (
  t.convergedBlocks ≤ 65535 ∧ t.doubleTalkBlocks ≤ 65535 ∧ t.suppressedBlocks ≤ 65535 ∧ t.clipBlocks ≤ 65535 ∧
  t.searchesCompleted ≤ 65535 ∧ t.pathChanges ≤ 65535 ∧ t.divergences ≤ 65535)

/-- `Tallies.sound` as a proposition. -/
abbrev Tallies.Sound (t : Tallies) : Prop := t.sound = true

/-- The five part tallies are 16-bit counts (R184). -/
def PartTallies.sound (t : PartTallies) : Bool :=
  decide (
  t.attachRefusals ≤ 65535 ∧ t.lineFaults ≤ 65535 ∧ t.overruns ≤ 65535 ∧ t.inconclusiveSearches ≤ 65535 ∧
  t.grants ≤ 65535)

/-- `PartTallies.sound` as a proposition. -/
abbrev PartTallies.Sound (t : PartTallies) : Prop := t.sound = true

/-- Every tally of the part and of its records is a 16-bit count (R5, R184). -/
abbrev State.TalliesSound (s : State) : Prop := s.part.Sound ∧ ∀ r ∈ s.records, r.tallies.Sound

/-- What each record's state says of its fields holds for every record. -/
abbrev State.StatesSound (s : State) : Prop := ∀ r ∈ s.records, r.StateSound

/-- The counts of every record lie in their ranges. -/
abbrev State.CountsSound (s : State) : Prop := ∀ r ∈ s.records, r.CountsSound

/-- A record's four talk counts sum to its live frame count (R75). -/
abbrev State.TalkCountsSound (s : State) : Prop :=
  ∀ r ∈ s.records,
    r.block.idleFrames + r.block.farFrames + r.block.nearFrames + r.block.doubleFrames = r.block.live

/-- Every record is sound under the profile it names. -/
abbrev State.RecordsSound (s : State) : Prop :=
  ∀ r ∈ s.records, r.ModelSound (s.profileOf r) ∧ r.StateSound ∧ r.CountsSound ∧ r.LevelsSound (s.profileOf r)

/-- The highways carry 128 samples each way (R32). -/
abbrev State.HighwaysSound (s : State) : Prop :=
  s.trunkOut.length = 128 ∧ s.exchangeOut.length = 128 ∧ s.nextTrunkOut.length = 128 ∧ s.nextExchangeOut.length = 128

/-- A sound state: all of the above. -/
abbrev State.Sound (s : State) : Prop :=
  s.SettingsSound ∧ s.StoreSound ∧ s.TableSound ∧ s.ReferencesSound ∧ s.PoolSound ∧ s.WaitingSound ∧ s.SearchSound ∧
  (∀ sl ∈ s.slots, sl.Sound) ∧ s.RecordsSound ∧ s.TalliesSound ∧ s.HighwaysSound

end Sys2Proof.Machine
end

