-- ==== Sys2Proof/WellFormed.lean ====
section
/-! DEFINITION. Which terms of `Instr` are steps the hardware can be given. -/

namespace Sys2Proof

/-- A frame brings one sample from every one of the 128 timeslots of each input highway (R32), and a profile travels
in 36 bytes (R164). Every other operand has the width of its field by its type. -/
def WellFormed : Instr → Bool
  | .frameSync trunkIn exchangeIn => trunkIn.length == 128 && exchangeIn.length == 128
  | .profileWrite _ layout => layout.length == 36
  | .reset _ _ | .blockEnd | .promotion _ | .pathChange _ | .entryToBypass _ | .returnFromBypass _ | .idleLapse _
  | .searchComplete _ | .searchTimeout _ | .storeComplete _ | .commandFrameReceived _ | .interByteGap _ _
  | .overrun _ | .replySent | .attach _ _ _ _ | .detach _ | .modify _ _ _ _ _ _ _ | .rebind _ _ | .moveLine _ _
  | .research _ _ | .look _ | .lookWindow _ _ | .find _ | .list _ _ _ | .ackAlarms _ _ | .profileRead _
  | .ruleRead _ | .ruleWrite _ _ _ _ _ _ | .ruleEnable _ _ | .store | .load | .events | .ackEvents _ | .setMask _
  | .tally _ _ _ | .ident | .restart | .characterFault _ | .powerLoss => true

end Sys2Proof
end

