-- ==== Sys2Proof/Certificates/Slice0/Obligations.lean ====
section
/-! DEFINITION. The statements for the provers. Each quantifies over states and operands; where one needs an invariant of
the model it names it as a premise (Safety.lean), and that invariant is a statement of its own. A next state is written
as the old one with the changed fields, so that every field not written is unchanged. -/

namespace Sys2Proof.Machine

/-- No search can end at the coming frame: a frame adds at most one to either count of a slot (R101, R102). -/
abbrev State.NoSearchEnds (s : State) : Prop := ∀ sl ∈ s.slots, sl.qualifying < 2047 ∧ sl.elapsed < 15999

/-- A value narrowed to a sample by saturation into −32768..32767 (R37). -/
def narrowed (v : Int) : Sample := BitVec.ofInt 16 (max (-32768) (min 32767 v))

/-- The magnitude of a sample; that of −32768 is 32768 (R37). -/
def absolute (v : Sample) : Nat := v.toInt.natAbs

/-- A value clamped into lo..hi (R37). -/
def within (lo hi v : Nat) : Nat := if v < lo then lo else if hi < v then hi else v

/-- The reference sample at a lag (R42), and the sample of a position in a highway frame (R32). -/
def earlier (history : List Sample) (j : Nat) : Sample := history.getD j 0
def timeslotOf (highway : List Sample) (p : Position) : Sample := highway.getD p.val 0

/-- A number in two bytes, and a word in two bytes, most significant byte first (R10). -/
def twoBytes (n : Nat) : List Byte := [BitVec.ofNat 8 (n / 256), BitVec.ofNat 8 n]
def wordField (w : BitVec 16) : List Byte := [w.extractLsb' 8 8, w.extractLsb' 0 8]

/-- A refusal: the state as it was, the status and no results (R9, R180). -/
def refusal (s : State) (status : Status) : Answer := { state := s, status := status, results := [] }

/-- The lanes and slots of t are those that the arbiter leaves when a record has left its lane and its slot (R97, R99,
R111). -/
abbrev State.SearchDropped (s t : State) (id : Identity) : Prop :=
  let u := State.arbitrate
    { s with
      priorityLane := s.priorityLane.filter (· != id)
      ordinaryLane := s.ordinaryLane.filter (· != id)
      slots := s.slots.filter (·.identity != id) }
  t.priorityLane = u.priorityLane ∧ t.ordinaryLane = u.ordinaryLane ∧ t.slots = u.slots

/-- The lanes and slots of t are those that the arbiter leaves when a record's search has ended (R97, R109, R110). -/
abbrev State.SlotFreed (s t : State) (id : Identity) : Prop :=
  let u := State.arbitrate { s with slots := s.slots.filter (·.identity != id) }
  t.priorityLane = u.priorityLane ∧ t.ordinaryLane = u.ordinaryLane ∧ t.slots = u.slots

/-- A sample multiplied by a Q4.12 multiplier, rounded and saturated (R37, R38). -/
def scaled (v : Sample) (multiplier : Nat) : Sample := narrowed ((v.toInt * (multiplier : Int) + 2048) / 4096)

/-- Xout of a record at a frame: the incoming pad, then the incoming gain (R40, R41). -/
def xoutOf (p : Profile) (r : Record) (tin : Sample) : Sample :=
  scaled (scaled tin (r.padIn.getD p.padIn)) (if p.alcIn then r.gainIn else 4096)

/-- The reference history of a record as stages 3 to 6 of a frame read it: after the write of stage 2 (R42). -/
def historyAt (s : State) (r : Record) (tin : Sample) : List Sample :=
  (xoutOf (s.settings.profiles.get r.profile) r tin :: r.history).take 1024

/-- The value b of the outgoing chain, after the outgoing gain, and Tout, after the outgoing pad (R40, R44). -/
def levelOf (p : Profile) (r : Record) (v : Sample) : Sample := scaled v (if p.alcOut then r.gainOut else 4096)
def toutOf (p : Profile) (r : Record) (v : Sample) : Sample := scaled (levelOf p r v) (r.padOut.getD p.padOut)

/-- The tap k of a window and the reference sample under it (R50, R53). -/
def tapOf (w : Window) (k : Nat) : Int := (w.coefficients.getD k 0).toInt
def sampleUnder (x : List Sample) (w : Window) (k : Nat) : Int := (earlier x (w.offset + k)).toInt

/-- The residual e of a record at a frame, from its held windows, the history x and y = Xin (R43, R53, R54). -/
def residualAt (r : Record) (x : List Sample) (y : Sample) : Sample :=
  let sy : Int := (r.held.map fun w => ((List.range 64).map fun k => tapOf w k * sampleUnder x w k).sum).sum
  if r.state = .settling ∨ r.state = .converged then
    narrowed (y.toInt - (narrowed ((sy + 16384) / 32768)).toInt)
  else y

/-- The four conditions of R129 for a suppressed frame. -/
abbrev SuppressedAt (p : Profile) (r : Record) (x : List Sample) (talk : TalkState) (e : Sample) : Prop :=
  r.state = .converged ∧ p.suppressorOn = true ∧ talk = .far ∧
    ∃ j < 64, absolute e * 2 ^ p.suppressionDepth ≤ absolute (earlier x j)

/-- The suppressor output e′, given the noise register that the frame leaves (R129, R131, R132). -/
def suppressedOr (p : Profile) (r : Record) (x : List Sample) (talk : TalkState) (e : Sample)
    (noise : BitVec 16) : Sample :=
  if SuppressedAt p r x talk e then
    if p.comfortFillOn then narrowed (Int.tdiv (noise.toInt * (r.background : Int)) 16384) else 0
  else e

/-- A record after k grants: its k strongest unplaced offsets have become windows with zero coefficients, each placed in
ascending offset order (R51, R124, R125). -/
def Record.granted (k : Nat) (r : Record) : Record :=
  { r with
    held := (r.unplaced.take k).foldl
      (fun held offset => insertWindow { offset := offset, coefficients := List.replicate 64 0 } held) r.held
    unplaced := r.unplaced.drop k }

/-- A part that carries out a command, or a block end, without being moved otherwise: everything but the table, the
search unit, the pool, the summary and the part tallies is as before. -/
abbrev State.SameApart (s t : State) : Prop :=
  t = { s with
    records := t.records, priorityLane := t.priorityLane, ordinaryLane := t.ordinaryLane, slots := t.slots
    free := t.free, waiting := t.waiting, summary := t.summary, part := t.part }

/-- Every record of s but the one that holds an identity stands in t as it was, or with windows granted to it at its
strongest unplaced offsets and not otherwise changed (R124, R125). -/
abbrev State.OthersKept (s t : State) (id : Identity) : Prop :=
  ∀ q ∈ s.records, q.identity ≠ id → ∃ k, q.granted k ∈ t.records

/-- A release with its grants: the record that holds an identity returns every window, drops its unplaced offsets and
leaves the waiting list, and the grants for the windows freed follow (R123, R124). -/
def State.released (s : State) (id : Identity) : State :=
  match s.recordOf id with
  | none => s
  | some r =>
    State.grantAll
      { s with
        records := s.records.map fun q => if q.identity = id then { q with held := [], unplaced := [] } else q
        free := s.free + r.held.length
        waiting := s.waiting.filter (· != id) }

/-- The pool of t is that of u: the free count, the waiting list, the part tallies with the grants among them, and every
record but the one that holds an identity, with the windows granted to it. -/
abbrev State.GrantedAs (t u : State) (id : Identity) : Prop :=
  t.free = u.free ∧ t.waiting = u.waiting ∧ t.part = u.part ∧
  t.records.filter (·.identity != id) = u.records.filter (·.identity != id)

/-- The qualifying condition of R81 on a record as its block-end work finds it. -/
abbrev Record.Qualifying (r : Record) : Prop :=
  r.block.live = 64 ∧ r.block.supervised = 64 ∧ r.block.farFrames = 64 ∧
    (r.state = .settling ∨ r.state = .converged) ∧ r.freeze = false

/-- R82: the floor L and the conditions of the divergent, failing and passing classes. -/
abbrev Record.DivergentUnder (p : Profile) (r : Record) : Prop :=
  64 * p.speechFloor ^ 2 < r.block.energyIn ∧ r.block.energyIn * 2 < r.block.energyResidual
abbrev Record.FailingUnder (p : Profile) (r : Record) : Prop :=
  64 * p.speechFloor ^ 2 < r.block.energyIn ∧ r.block.energyIn < r.block.energyResidual * 4
abbrev Record.PassingUnder (p : Profile) (r : Record) : Prop :=
  r.block.energyIn ≤ 64 * p.speechFloor ^ 2 ∨ r.block.energyResidual * 16 ≤ r.block.energyIn

/-- A path change is made at the block end (R85). -/
abbrev Record.PathChanges (p : Profile) (r : Record) : Prop :=
  r.Qualifying ∧ ¬r.DivergentUnder p ∧ r.FailingUnder p ∧ r.state = .converged ∧ 8 ≤ r.failCount + 1

/-- The state that convergence supervision leaves a SETTLING or CONVERGED record in at a block end (R83 to R86). -/
def Record.stateLeft (p : Profile) (r : Record) : RecordState :=
  if r.Qualifying ∧ r.DivergentUnder p then .settling
  else if r.PathChanges p then .settling
  else if r.Qualifying ∧ r.PassingUnder p ∧ r.state = .settling ∧ 3 ≤ r.passCount then .converged
  else r.state

/-- The block is quiet on both paths (R154, R156). -/
abbrev Record.QuietUnder (p : Profile) (r : Record) : Prop :=
  r.block.sumTin / 64 < p.speechFloor ∧ r.block.sumXin / 64 < p.speechFloor

/-- Tone bypass is on and a path is tone-like (R151, R152). -/
abbrev Record.ToneUnder (p : Profile) (r : Record) : Prop :=
  p.toneBypassOn = true ∧
    ((31 ≤ r.block.changesTin ∧ r.block.changesTin ≤ 36 ∧ p.toneFloor ≤ r.block.sumTin / 64) ∨
      (31 ≤ r.block.changesXin ∧ r.block.changesXin ≤ 36 ∧ p.toneFloor ≤ r.block.sumXin / 64))

/-- Block-end work beyond clip detection is done for the record: it is not LAPSED and its block is whole (R6, R46,
R47). -/
abbrev Record.Whole (r : Record) : Prop := r.state ≠ .lapsed ∧ r.block.live = 64

/-- The record enters BYPASS, returns from it, or lapses at the end of its whole block (R152, R154, R156). -/
abbrev Record.EntersUnder (p : Profile) (r : Record) : Prop :=
  (r.state = .settling ∨ r.state = .converged) ∧ r.ToneUnder p ∧ 50 ≤ r.toneCount + 1
abbrev Record.ReturnsUnder (p : Profile) (r : Record) : Prop :=
  r.state = .bypass ∧ r.QuietUnder p ∧ 32 ≤ r.quietCount + 1
abbrev Record.LapsesUnder (p : Profile) (r : Record) : Prop :=
  p.idleLimit ≠ 0 ∧ r.QuietUnder p ∧ p.idleLimit * 125 ≤ r.idleCount + 1

/-- The releases of a block end: the records that lapse at it, in ascending order of position, each release complete with
its grants before the next begins (R123, R157). -/
def State.lapsesReleased (s : State) : State :=
  (List.finRange 128).foldl (fun v position =>
    match s.recordAt position with
    | none => v
    | some r =>
      if r.Whole ∧ r.LapsesUnder (s.settings.profiles.get r.profile) then v.released r.identity else v) s

end Sys2Proof.Machine

open Sys2Proof Sys2Proof.Machine

/-! ## The machine -/

/-- A step runs the command at the front of the queue on the queue's rest; an empty queue idles, which is the model's
choice (notes/assumptions/1.md). -/
def Obligations.StepTakesFrontCommand : Prop :=
  (∀ (s : State) (i : Instr) (rest : List Instr),
    s.pending = i :: rest → step s = exec i { s with pending := rest }) ∧
  (∀ s : State, s.pending = [] → step s = .next s)

/-- Every command of the table has a next state in every state and keeps the queue. A part that does not run, for want of
its supply or with its reset pin held, is changed by RESET and POWER_LOSS only, and without supply by RESET only (the
model's choices, notes/assumptions/6.md and notes/assumptions/17.md). -/
def Obligations.EveryCommandCompletes : Prop :=
  ∀ (i : Instr) (s : State), ∃ t, exec i s = .next t ∧ t.pending = s.pending ∧
    (s.running = false → (∀ pin straps, i ≠ .reset pin straps) → i ≠ .powerLoss → t = s) ∧
    (s.powered = false → (∀ pin straps, i ≠ .reset pin straps) → t = s)

/-- The state after reset is sound, and a RESET with the pins that it has leaves it as it is. (Its store, its pins, its
frame counter and its output highways are the model's choices, notes/assumptions/4.md, notes/assumptions/18.md and
notes/assumptions/21.md.) -/
def Obligations.ResetStateSound : Prop :=
  State.reset.Sound ∧ State.reset.TalkCountsSound ∧
  exec (.reset .released { address := 0, rate := false }) State.reset = .next State.reset

/-- RESET from any state: the table empty, the lanes, slots and waiting list empty, every window free, the highways
silent (that they are so before the first frame sync is the model's choice, notes/assumptions/21.md), the frame counter
standing (at 63, the model's choice, notes/assumptions/18.md), the part tallies 0, the mask full, the store kept with a
write in flight cut, the working copies loaded, and STORE_BAD beside RESTARTED when the check is invalid, with the
factory values of R162 and R174; the pins are sampled when the reset pin is released, and while it is held the part
stays in reset (what it holds meanwhile is the model's choice, notes/assumptions/17.md). What a cut write leaves of the
contents is the free value (notes/assumptions/5.md). -/
def Obligations.ResetLoadsAndClears : Prop :=
  (∀ (s : State) (pin : ResetPin) (straps : StrapPins),
    exec (.reset pin straps) s = .next
      { powered := true
        resetHeld := decide (pin = .held)
        phase := 63
        blockEndDue := false
        trunkOut := List.replicate 128 0
        exchangeOut := List.replicate 128 0
        nextTrunkOut := List.replicate 128 0
        nextExchangeOut := List.replicate 128 0
        records := []
        priorityLane := []
        ordinaryLane := []
        slots := []
        free := 144
        waiting := []
        settings := if s.store.valid && s.store.inFlight.isNone then s.store.contents else factorySettings
        refCounts := Vector.replicate 8 0
        store :=
          { contents := match s.store.inFlight with
              | none => s.store.contents
              | some snapshot => Config.tornContents s.freeIndex s.store.contents snapshot
            valid := s.store.valid && s.store.inFlight.isNone
            wear := s.store.wear
            inFlight := none }
        summary := if s.store.valid && s.store.inFlight.isNone then 0x01 else 0x03
        mask := 0xFF
        part :=
          { attachRefusals := 0, lineFaults := 0, overruns := 0, inconclusiveSearches := 0, grants := 0 }
        port :=
          { hearing := .hunting
            reply := none
            address := if pin = .held then s.port.address else straps.address
            rate :=
              if pin = .held then s.port.rate else if straps.rate then .baud115200 else .baud19200 }
        freeIndex := s.freeIndex + (if s.store.inFlight.isNone then 0 else 1)
        pending := s.pending }) ∧
  (∀ n : ProfileNumber, factorySettings.profiles.get n =
    { searchOn := true, provisionalOffset := 0, windowLimit := 3, stepExponent := 4, regularisation := 256
      referenceFloor := 32, speechFloor := 96, doubleTalkShift := 1, nearHold := 240, suppressorOn := true
      suppressionDepth := 2, comfortFillOn := true, padIn := 4096, padOut := 4096, alcIn := true, alcOut := true
      bandLow := 1200, bandHigh := 2400, gmin := 2048, gmax := 8192, toneBypassOn := true, toneFloor := 256
      idleLimit := 0 }) ∧
  (∀ n : RuleNumber, factorySettings.rules.get n =
    { enabled := false, base := 0x0000, mask := 0x0000, profile := 0, mode := .cancel })

/-! ## FRAME_SYNC -/

/-- A frame sends the samples computed from the frame before, takes the next phase (0 after 63, and 0 at the first frame
after reset), makes the block end due at phase 63, and touches nothing but the table, the search unit, the pool, the
summary and the part tallies besides, and of these only the table and the values of the slots where no block end is due
and no search ends. There a record keeps everything but its history, talk state, near-hold counter, noise register, held
windows and block working values (R36, R42, R45), and a LAPSED record keeps those too (R35). -/
def Obligations.FrameHighwaysAndPhase : Prop :=
  (∀ (s : State) (trunkIn exchangeIn : List Sample), s.running = true →
    ∃ t, exec (.frameSync trunkIn exchangeIn) s = .next t ∧
      t.trunkOut = s.nextTrunkOut ∧ t.exchangeOut = s.nextExchangeOut ∧
      t.nextTrunkOut.length = 128 ∧ t.nextExchangeOut.length = 128 ∧
      t.phase.val = (s.phase.val + 1) % 64 ∧ (t.blockEndDue = true ↔ t.phase = 63) ∧
      t.records.map (fun r => (r.identity, r.position)) = s.records.map (fun r => (r.identity, r.position)) ∧
      t = { s with
        phase := t.phase, blockEndDue := t.blockEndDue, trunkOut := t.trunkOut, exchangeOut := t.exchangeOut
        nextTrunkOut := t.nextTrunkOut, nextExchangeOut := t.nextExchangeOut, records := t.records
        priorityLane := t.priorityLane, ordinaryLane := t.ordinaryLane, slots := t.slots, free := t.free
        waiting := t.waiting, summary := t.summary, part := t.part } ∧
      (s.blockEndDue = false → s.NoSearchEnds →
        t.priorityLane = s.priorityLane ∧ t.ordinaryLane = s.ordinaryLane ∧ t.free = s.free ∧
        t.waiting = s.waiting ∧ t.summary = s.summary ∧ t.part = s.part ∧
        t.slots.map (·.identity) = s.slots.map (·.identity) ∧
        (s.TableSound → ∀ r ∈ s.records, ∃ r', t.recordOf r.identity = some r' ∧
          (r.state = .lapsed → r' = r) ∧
          r' = { r with
            history := r'.history, talk := r'.talk, nearHold := r'.nearHold, noise := r'.noise, held := r'.held
            block := r'.block }))) ∧
  (∀ (s : State) (straps : StrapPins) (trunkIn exchangeIn : List Sample),
    ∃ u t, exec (.reset .released straps) s = .next u ∧ exec (.frameSync trunkIn exchangeIn) u = .next t ∧
      t.phase = 0 ∧ t.trunkOut = List.replicate 128 0 ∧ t.exchangeOut = List.replicate 128 0)

/-- R35: an unbound position, and one bound to a LAPSED record, passes both samples unchanged, one frame later, and the
LAPSED record keeps its fields. -/
def Obligations.FramePassesUnbound : Prop :=
  ∀ (s : State) (trunkIn exchangeIn laterTrunkIn laterExchangeIn : List Sample) (p : Position),
    s.running = true → s.blockEndDue = false → s.TableSound → s.SearchSound → s.StatesSound →
    (∀ r, s.recordAt p = some r → r.state = .lapsed) →
    ∃ t, exec (.frameSync trunkIn exchangeIn) s = .next t ∧
      timeslotOf t.nextExchangeOut p = timeslotOf trunkIn p ∧ timeslotOf t.nextTrunkOut p = timeslotOf exchangeIn p ∧
      t.recordAt p = s.recordAt p ∧
      ∃ u, exec (.frameSync laterTrunkIn laterExchangeIn) t = .next u ∧
        timeslotOf u.exchangeOut p = timeslotOf trunkIn p ∧ timeslotOf u.trunkOut p = timeslotOf exchangeIn p

/-- R40, R41, R42: the incoming chain of a record that is not LAPSED, and its reference history. -/
def Obligations.FrameIncomingChain : Prop :=
  ∀ (s : State) (trunkIn exchangeIn : List Sample) (r : Record),
    s.running = true → s.blockEndDue = false → s.TableSound → r ∈ s.records → r.state ≠ .lapsed →
    let p := s.settings.profiles.get r.profile
    let padIn : Nat := r.padIn.getD p.padIn
    let gainIn : Nat := if p.alcIn then r.gainIn else 4096
    let a : Sample := narrowed (((timeslotOf trunkIn r.position).toInt * padIn + 2048) / 4096)
    let xout : Sample := narrowed ((a.toInt * gainIn + 2048) / 4096)
    ∃ t, exec (.frameSync trunkIn exchangeIn) s = .next t ∧
      timeslotOf t.nextExchangeOut r.position = xout ∧
      ∃ r', t.recordOf r.identity = some r' ∧ r'.history = (xout :: r.history).take 1024

/-- R69 to R72: the far decision, the near trigger, the near decision with its hold, and the talk state of a frame. -/
def Obligations.FrameTalkDecision : Prop :=
  ∀ (s : State) (trunkIn exchangeIn : List Sample) (r : Record),
    s.running = true → s.blockEndDue = false → s.TableSound → r ∈ s.records → r.state ≠ .lapsed →
    let p := s.settings.profiles.get r.profile
    let x := historyAt s r (timeslotOf trunkIn r.position)
    let y : Nat := absolute (timeslotOf exchangeIn r.position)
    ∃ t, exec (.frameSync trunkIn exchangeIn) s = .next t ∧
      ∃ r', t.recordOf r.identity = some r' ∧
        ((r'.talk = .far ∨ r'.talk = .double) ↔ ∃ j < 64, p.speechFloor ≤ absolute (earlier x j)) ∧
        ((r'.talk = .near ∨ r'.talk = .double) ↔
          (p.speechFloor ≤ y ∧ ∀ j < 1024, absolute (earlier x j) < y * 2 ^ p.doubleTalkShift) ∨ 0 < r.nearHold) ∧
        ((p.speechFloor ≤ y ∧ ∀ j < 1024, absolute (earlier x j) < y * 2 ^ p.doubleTalkShift) →
          r'.nearHold = p.nearHold) ∧
        (¬(p.speechFloor ≤ y ∧ ∀ j < 1024, absolute (earlier x j) < y * 2 ^ p.doubleTalkShift) →
          r'.nearHold = r.nearHold - 1)

/-- R43, R44, R53, R54, R129, R131, R132: the estimate, the residual, the suppressor and the outgoing chain of a record
that is not LAPSED, and its noise register. -/
def Obligations.FrameTrunkOut : Prop :=
  ∀ (s : State) (trunkIn exchangeIn : List Sample) (r : Record),
    s.running = true → s.blockEndDue = false → s.TableSound → r ∈ s.records → r.state ≠ .lapsed →
    (∀ w ∈ r.held, w.coefficients.length = 64) →
    let p := s.settings.profiles.get r.profile
    let x := historyAt s r (timeslotOf trunkIn r.position)
    let e := residualAt r x (timeslotOf exchangeIn r.position)
    ∃ t, exec (.frameSync trunkIn exchangeIn) s = .next t ∧
      ∃ r', t.recordOf r.identity = some r' ∧
        (¬SuppressedAt p r x r'.talk e →
          r'.noise = r.noise ∧ timeslotOf t.nextTrunkOut r.position = toutOf p r e) ∧
        (SuppressedAt p r x r'.talk e →
          (p.comfortFillOn = false →
            r'.noise = r.noise ∧ timeslotOf t.nextTrunkOut r.position = 0) ∧
          (p.comfortFillOn = true →
            r'.noise = (if r.noise.getLsbD 0 then (r.noise >>> 1) ^^^ 0xB400 else r.noise >>> 1) ∧
            timeslotOf t.nextTrunkOut r.position =
              toutOf p r (narrowed (Int.tdiv (r'.noise.toInt * (r.background : Int)) 16384))))

/-- R56 to R60: the update of every coefficient of every held window at a frame that adapts, and no change at any other,
for a record that is not LAPSED, where no search ends at the frame. -/
def Obligations.FrameAdaptation : Prop :=
  ∀ (s : State) (trunkIn exchangeIn : List Sample) (r : Record),
    s.running = true → s.blockEndDue = false → s.TableSound → s.NoSearchEnds → r ∈ s.records → r.state ≠ .lapsed →
    (∀ w ∈ r.held, w.coefficients.length = 64) →
    let p := s.settings.profiles.get r.profile
    let x := historyAt s r (timeslotOf trunkIn r.position)
    let e := residualAt r x (timeslotOf exchangeIn r.position)
    let power : Int := (r.held.map fun w => ((List.range 64).map fun k => sampleUnder x w k ^ 2).sum).sum
    ∃ t, exec (.frameSync trunkIn exchangeIn) s = .next t ∧
      ∃ r', t.recordOf r.identity = some r' ∧
        (((r.state = .settling ∨ r.state = .converged) ∧ r.freeze = false ∧ r'.talk = .far ∧ r.held ≠ [] ∧
            64 * (r.held.length : Int) * (p.referenceFloor : Int) ^ 2 ≤ power) →
          r'.held = r.held.map fun w =>
            { offset := w.offset
              coefficients := (List.range 64).map fun k =>
                narrowed (tapOf w k +
                  Int.tdiv (e.toInt * sampleUnder x w k * 2 ^ (15 - p.stepExponent))
                    (power + (p.regularisation : Int) * 256)) }) ∧
        (¬((r.state = .settling ∨ r.state = .converged) ∧ r.freeze = false ∧ r'.talk = .far ∧ r.held ≠ [] ∧
            64 * (r.held.length : Int) * (p.referenceFloor : Int) ^ 2 ≤ power) →
          r'.held = r.held)

/-- R45, R46, R75, R80, R134, R135, R138, R150: what stage 8 adds to the block working values of a record that is not
LAPSED, from the residual (R43, R53, R54), the suppressor output (R129, R131, R132), Xout (R41) and b (R44). -/
def Obligations.FrameBlockAccumulation : Prop :=
  ∀ (s : State) (trunkIn exchangeIn : List Sample) (r : Record),
    s.running = true → s.blockEndDue = false → s.TableSound → r ∈ s.records → r.state ≠ .lapsed →
    (∀ w ∈ r.held, w.coefficients.length = 64) →
    let p := s.settings.profiles.get r.profile
    let tin := timeslotOf trunkIn r.position
    let xin := timeslotOf exchangeIn r.position
    let x := historyAt s r tin
    let e := residualAt r x xin
    let b := r.block
    ∃ t, exec (.frameSync trunkIn exchangeIn) s = .next t ∧
      ∃ r', t.recordOf r.identity = some r' ∧
        r'.block =
          { live := b.live + 1
            clip := b.clip || decide (tin.toInt = -32768) || decide (tin.toInt = 32767) ||
              decide (xin.toInt = -32768) || decide (xin.toInt = 32767)
            idleFrames := b.idleFrames + (if r'.talk = .idle then 1 else 0)
            farFrames := b.farFrames + (if r'.talk = .far then 1 else 0)
            nearFrames := b.nearFrames + (if r'.talk = .near then 1 else 0)
            doubleFrames := b.doubleFrames + (if r'.talk = .double then 1 else 0)
            energyIn := b.energyIn + absolute xin ^ 2
            energyResidual := b.energyResidual + absolute e ^ 2
            energyOut := b.energyOut + absolute (xoutOf p r tin) ^ 2
            supervised := b.supervised +
              (if (r.state = .settling ∨ r.state = .converged) ∧ r.freeze = false then 1 else 0)
            suppressed := b.suppressed || decide (SuppressedAt p r x r'.talk e)
            sumXin := b.sumXin + absolute xin
            sumTin := b.sumTin + absolute tin
            changesTin := b.changesTin + (if (0 ≤ b.previousTin.toInt) ↔ (0 ≤ tin.toInt) then 0 else 1)
            changesXin := b.changesXin + (if (0 ≤ b.previousXin.toInt) ↔ (0 ≤ xin.toInt) then 0 else 1)
            levelIn := b.levelIn + absolute (xoutOf p r tin)
            levelOut := b.levelOut + absolute (levelOf p r (suppressedOr p r x r'.talk e r'.noise))
            previousTin := tin
            previousXin := xin
            idleRose := b.idleRose }

/-- R101 to R103, R108 to R110: what a frame does to an occupied slot. After the frame work of every record, in a state
with the pool, the lanes and the tallies as before, the slot has accumulated; then the searches that have ended end, in
ascending order of their records' positions, each as SEARCH_COMPLETE or SEARCH_TIMEOUT ends it in that state: at the
2048th qualifying frame the search completes, and at the 16,000th elapsed frame without completion it times out. That the
frame itself ends them is the reading of notes/assumptions/3.md. -/
def Obligations.FrameSearchSlot : Prop :=
  ∀ (s : State) (trunkIn exchangeIn : List Sample) (sl : Slot) (r : Record),
    s.running = true → s.blockEndDue = false → s.TableSound → s.SearchSound → sl ∈ s.slots →
    s.recordOf sl.identity = some r → sl.correlation.length = 1024 → r.history.length = 1024 →
    let x := historyAt s r (timeslotOf trunkIn r.position)
    let y : Int := (timeslotOf exchangeIn r.position).toInt / 256
    ∃ u t, exec (.frameSync trunkIn exchangeIn) s = .next t ∧
      u = { s with
        phase := u.phase, blockEndDue := u.blockEndDue, trunkOut := u.trunkOut, exchangeOut := u.exchangeOut
        nextTrunkOut := u.nextTrunkOut, nextExchangeOut := u.nextExchangeOut, records := u.records
        slots := u.slots } ∧
      u.records = (s.records.map fun q =>
        (frameOf (s.settings.profiles.get q.profile) q (timeslotOf trunkIn q.position)
          (timeslotOf exchangeIn q.position)).record) ∧
      u.slots.map (·.identity) = s.slots.map (·.identity) ∧
      t = (List.finRange 128).foldl (fun v position =>
        match v.recordAt position with
        | none => v
        | some q => (v.completeSearch q.identity).timeOutSearch q.identity) u ∧
      ∃ r' sl', t.recordOf sl.identity = some r' ∧ sl' ∈ u.slots ∧ sl'.identity = sl.identity ∧
        sl'.elapsed = sl.elapsed + 1 ∧ sl'.correlation.length = 1024 ∧
        (r'.talk = .far → sl'.qualifying = sl.qualifying + 1 ∧
          sl'.referenceSum = sl.referenceSum + (((earlier x 0).toInt / 256) ^ 2).toNat ∧
          ∀ j < 1024, sl'.correlation.getD j 0 = sl.correlation.getD j 0 + y * ((earlier x j).toInt / 256)) ∧
        (r'.talk ≠ .far → sl' = { sl with elapsed := sl.elapsed + 1 }) ∧
        (sl'.qualifying < 2048 → sl'.elapsed < 16000 → sl' ∈ t.slots) ∧
        (2048 ≤ sl'.qualifying →
          (r'.lastResult = .placed ∨ r'.lastResult = .noEcho) ∧
          r'.tallies.searchesCompleted = min 65535 (r.tallies.searchesCompleted + 1) ∧
          t.searchStatus sl.identity = .noSearch) ∧
        (sl'.qualifying < 2048 → 16000 ≤ sl'.elapsed →
          r'.lastResult = .inconclusive ∧ r'.tallies = r.tallies ∧ t.searchStatus sl.identity = .noSearch) ∧
        ((∀ other ∈ u.slots, other.identity ≠ sl.identity → other.qualifying < 2048 ∧ other.elapsed < 16000) →
          (sl'.qualifying < 2048 → sl'.elapsed < 16000 → t = u) ∧
          (2048 ≤ sl'.qualifying → exec (.searchComplete sl.identity) u = .next t) ∧
          (sl'.qualifying < 2048 → 16000 ≤ sl'.elapsed → exec (.searchTimeout sl.identity) u = .next t))

/-- R36: the frame work of one record does not read any other record, nor any sample of another position. -/
def Obligations.FrameIsolation : Prop :=
  ∀ (s₁ s₂ : State) (trunkIn₁ exchangeIn₁ trunkIn₂ exchangeIn₂ : List Sample) (r : Record),
    s₁.running = true → s₂.running = true → s₁.blockEndDue = false → s₂.blockEndDue = false →
    s₁.TableSound → s₂.TableSound → s₁.NoSearchEnds → s₂.NoSearchEnds → r ∈ s₁.records → r ∈ s₂.records →
    s₁.settings.profiles.get r.profile = s₂.settings.profiles.get r.profile →
    timeslotOf trunkIn₁ r.position = timeslotOf trunkIn₂ r.position →
    timeslotOf exchangeIn₁ r.position = timeslotOf exchangeIn₂ r.position →
    ∃ t₁ t₂, exec (.frameSync trunkIn₁ exchangeIn₁) s₁ = .next t₁ ∧
      exec (.frameSync trunkIn₂ exchangeIn₂) s₂ = .next t₂ ∧
      (t₁.recordOf r.identity).isSome = true ∧ t₁.recordOf r.identity = t₂.recordOf r.identity ∧
      timeslotOf t₁.nextTrunkOut r.position = timeslotOf t₂.nextTrunkOut r.position ∧
      timeslotOf t₁.nextExchangeOut r.position = timeslotOf t₂.nextExchangeOut r.position

/-! ## BLOCK_END -/

/-- BLOCK_END: with none due it changes nothing; with one due it leaves none due, keeps every identity, position and
profile, and touches nothing but the table, the search unit, the pool, the summary and the part tallies, of which only
the grants tally can change. A record that does not then enter BYPASS or lapse keeps its search or its request, and
gets none but by a divergence, a path change or a return from BYPASS to SETTLING, and none by a return to CONVERGED
(R87, R97 to R99, R154). The pool is left as the releases of the records that lapse leave it, with their grants (R123,
R124). A FRAME_SYNC with one due is a BLOCK_END and then that FRAME_SYNC. (The first and the last are the model's
choices, notes/assumptions/2.md.) -/
def Obligations.BlockEndFrame : Prop :=
  ∀ s : State, s.running = true →
    (s.blockEndDue = false → exec .blockEnd s = .next s) ∧
    (s.blockEndDue = true →
      ∃ t, exec .blockEnd s = .next t ∧ t.blockEndDue = false ∧
        t.records.map (fun r => (r.identity, r.position, r.profile)) =
          s.records.map (fun r => (r.identity, r.position, r.profile)) ∧
        State.SameApart { s with blockEndDue := false } t ∧
        t.part = { s.part with grants := t.part.grants } ∧
        (∀ r ∈ s.records, r.state = .lapsed → s.TableSound → s.StatesSound → t.recordOf r.identity = some r) ∧
        (∀ r ∈ s.records, s.TableSound →
          let p := s.settings.profiles.get r.profile
          (¬r.Whole ∨ ¬r.EntersUnder p ∧ ¬r.LapsesUnder p →
            (∀ sl ∈ s.slots, sl.identity = r.identity → sl ∈ t.slots) ∧
            (s.searchStatus r.identity = .waitingPriority →
              t.searchStatus r.identity = .waitingPriority ∨ t.searchStatus r.identity = .running) ∧
            (s.searchStatus r.identity = .waitingOrdinary → t.searchStatus r.identity ≠ .noSearch)) ∧
          (s.searchStatus r.identity = .noSearch →
            ¬r.Whole ∨
              ¬(r.Qualifying ∧ r.DivergentUnder p) ∧ ¬r.PathChanges p ∧
                (r.ReturnsUnder p → r.resume = some .converged) ∨
              p.searchOn = false ∨ p.windowLimit = 0 →
            t.searchStatus r.identity = .noSearch)) ∧
        (s.TableSound →
          t.free = s.lapsesReleased.free ∧ t.waiting = s.lapsesReleased.waiting ∧ t.part = s.lapsesReleased.part ∧
          t.records.map (fun r => (r.identity, r.held.map (·.offset), r.unplaced)) =
            s.lapsesReleased.records.map (fun r => (r.identity, r.held.map (·.offset), r.unplaced))) ∧
        ∀ trunkIn exchangeIn, exec (.frameSync trunkIn exchangeIn) s = exec (.frameSync trunkIn exchangeIn) t)

/-- R46, R47: a partial block. Only clip detection is made, the block working values start again, the carried last
samples are kept, and the windows and unplaced offsets change only by grants (R124). -/
def Obligations.BlockEndPartial : Prop :=
  ∀ (s : State) (r : Record),
    s.running = true → s.blockEndDue = true → s.TableSound → r ∈ s.records → r.state ≠ .lapsed → r.block.live ≠ 64 →
    ∃ t, exec .blockEnd s = .next t ∧
      ∃ k, t.recordOf r.identity = some
        { r.granted k with
          alarms := if r.block.clip then r.alarms ||| 0x4 else r.alarms
          tallies := { r.tallies with
            clipBlocks := if r.block.clip then min 65535 (r.tallies.clipBlocks + 1) else r.tallies.clipBlocks }
          block := { previousTin := r.lastTin, previousXin := r.lastXin } }

/-- R46, R76, R134, R135, R138 to R141, R143: what the end of a whole block measures in a record: the two gains, the
background level and the double-talk, suppressed and clip tallies; and what it leaves alone. -/
def Obligations.BlockEndMeasures : Prop :=
  ∀ (s : State) (r : Record),
    s.running = true → s.blockEndDue = true → s.TableSound → r ∈ s.records → r.state ≠ .lapsed → r.block.live = 64 →
    let p := s.settings.profiles.get r.profile
    let b := r.block
    let moved (m g : Nat) : Nat :=
      within p.gmin p.gmax
        (if m > p.bandHigh then g - (g + 15) / 16 else if m < p.bandLow then g + max 1 (g / 64) else g)
    let tally (c : Bool) (n : Nat) : Nat := if c then min 65535 (n + 1) else n
    ∃ t, exec .blockEnd s = .next t ∧
      ∃ r', t.recordOf r.identity = some r' ∧
        r'.gainIn =
          (if r.state ≠ .bypass ∧ p.alcIn = true ∧ 32 ≤ b.farFrames + b.doubleFrames then
            moved (b.levelIn / 64) r.gainIn else r.gainIn) ∧
        r'.gainOut =
          (if r.state ≠ .bypass ∧ p.alcOut = true ∧ 32 ≤ b.nearFrames + b.doubleFrames then
            moved (b.levelOut / 64) r.gainOut else r.gainOut) ∧
        (r'.background : Int) =
          (if b.idleFrames = 64 then
            max 0 ((r.background : Int) + Int.tdiv (((min 8191 (b.sumXin / 64) : Nat) : Int) - r.background) 8)
          else r.background) ∧
        r'.tallies.doubleTalkBlocks = tally (decide (1 ≤ b.doubleFrames)) r.tallies.doubleTalkBlocks ∧
        r'.tallies.suppressedBlocks = tally b.suppressed r.tallies.suppressedBlocks ∧
        r'.tallies.clipBlocks = tally b.clip r.tallies.clipBlocks ∧
        r'.tallies.searchesCompleted = r.tallies.searchesCompleted ∧
        r'.position = r.position ∧ r'.profile = r.profile ∧ r'.freeze = r.freeze ∧ r'.history = r.history ∧
        r'.talk = r.talk ∧ r'.nearHold = r.nearHold ∧ r'.padIn = r.padIn ∧ r'.padOut = r.padOut ∧
        r'.noise = r.noise ∧ r'.lastResult = r.lastResult ∧
        r'.lastTin = b.previousTin ∧ r'.lastXin = b.previousXin ∧
        r'.block = { previousTin := b.previousTin, previousXin := b.previousXin }

/-- R81 to R87, R89, R90: convergence supervision of a SETTLING or CONVERGED record at the end of a whole block: counts
and tallies by class, whatever follows at the same block end; the windows, unless the record lapses, with every
coefficient zeroed at its place by a divergence and with grants (R63, R83, R124); and, where the record neither enters
BYPASS nor lapses, its state and the supervisor's request. -/
def Obligations.BlockEndConvergence : Prop :=
  ∀ (s : State) (r : Record),
    s.running = true → s.blockEndDue = true → s.TableSound → r ∈ s.records → r.block.live = 64 →
    (r.state = .settling ∨ r.state = .converged) →
    let p := s.settings.profiles.get r.profile
    let judged : Record :=
      if r.Qualifying ∧ r.DivergentUnder p then
        { r with held := r.held.map fun w =>
            { offset := w.offset, coefficients := w.coefficients.map fun _ => 0 } }
      else r
    ∃ t, exec .blockEnd s = .next t ∧
      ∃ r', t.recordOf r.identity = some r' ∧
        (¬r.Qualifying →
          r'.passCount = r.passCount ∧ r'.failCount = r.failCount ∧
          r'.tallies.pathChanges = r.tallies.pathChanges ∧ r'.tallies.divergences = r.tallies.divergences) ∧
        (r.Qualifying → r.DivergentUnder p →
          r'.passCount = 0 ∧ r'.failCount = 0 ∧ r'.tallies.pathChanges = r.tallies.pathChanges ∧
          r'.tallies.divergences = min 65535 (r.tallies.divergences + 1)) ∧
        (r.Qualifying → ¬r.DivergentUnder p → r.FailingUnder p →
          r'.passCount = 0 ∧ r'.tallies.divergences = r.tallies.divergences ∧
          (r.state = .converged → 8 ≤ r.failCount + 1 →
            r'.failCount = 0 ∧ r'.tallies.pathChanges = min 65535 (r.tallies.pathChanges + 1)) ∧
          (r.state = .converged → r.failCount + 1 < 8 →
            r'.failCount = r.failCount + 1 ∧ r'.tallies.pathChanges = r.tallies.pathChanges) ∧
          (r.state = .settling →
            r'.failCount = r.failCount ∧ r'.tallies.pathChanges = r.tallies.pathChanges)) ∧
        (r.Qualifying → r.PassingUnder p → ¬r.DivergentUnder p →
          r'.failCount = 0 ∧ r'.tallies.pathChanges = r.tallies.pathChanges ∧
          r'.tallies.divergences = r.tallies.divergences ∧
          (r.state = .settling → 3 ≤ r.passCount → r'.passCount = 0) ∧
          (r.state = .settling → r.passCount < 3 → r'.passCount = r.passCount + 1) ∧
          (r.state = .converged → r'.passCount = min 4 (r.passCount + 1))) ∧
        (r.Qualifying → ¬r.DivergentUnder p → ¬r.FailingUnder p → ¬r.PassingUnder p →
          r'.passCount = 0 ∧ r'.failCount = 0 ∧
          r'.tallies.pathChanges = r.tallies.pathChanges ∧ r'.tallies.divergences = r.tallies.divergences) ∧
        r'.tallies.convergedBlocks =
          (if r.stateLeft p = .converged then min 65535 (r.tallies.convergedBlocks + 1)
          else r.tallies.convergedBlocks) ∧
        (¬r.LapsesUnder p → ∃ k, r'.held = (judged.granted k).held ∧ r'.unplaced = (judged.granted k).unplaced) ∧
        (¬r.EntersUnder p → ¬r.LapsesUnder p →
          r'.state = r.stateLeft p ∧ r'.resume = r.resume ∧
          ((r.Qualifying ∧ r.DivergentUnder p) ∨ r.PathChanges p → p.searchOn = true → 1 ≤ p.windowLimit →
            t.searchStatus r.identity = .waitingPriority ∨ t.searchStatus r.identity = .running))

/-- R6, R65, R89, R90, R151 to R154, R156 to R159: the tone, quiet and idle counts of a record at the end of a whole
block, entry to BYPASS with the state that convergence supervision left as its resume state, the return from it, and
the lapse, each on what the work before it left; and what a BYPASS or TRANSPARENT record keeps: its pass and fail
counts, the three tallies of convergence supervision and, unless it lapses, its windows with their coefficients and its
unplaced offsets, but for grants. -/
def Obligations.BlockEndToneQuietIdle : Prop :=
  ∀ (s : State) (r : Record),
    s.running = true → s.blockEndDue = true → s.TableSound → r ∈ s.records → r.state ≠ .lapsed → r.block.live = 64 →
    let p := s.settings.profiles.get r.profile
    ∃ t, exec .blockEnd s = .next t ∧
      ∃ r', t.recordOf r.identity = some r' ∧
        r'.toneCount =
          (if r.state = .settling ∨ r.state = .converged then (if r.ToneUnder p then r.toneCount + 1 else 0)
          else if r.ReturnsUnder p then 0 else r.toneCount) ∧
        r'.quietCount =
          (if r.state = .settling ∨ r.state = .converged then (if r.EntersUnder p then 0 else r.quietCount)
          else if r.state = .bypass then
            (if r.QuietUnder p ∧ ¬r.ReturnsUnder p then r.quietCount + 1 else 0)
          else r.quietCount) ∧
        r'.idleCount = (if p.idleLimit ≠ 0 ∧ r.QuietUnder p then r.idleCount + 1 else 0) ∧
        (r.state = .bypass ∨ r.state = .transparent →
          r'.passCount = r.passCount ∧ r'.failCount = r.failCount ∧
          r'.tallies.convergedBlocks = r.tallies.convergedBlocks ∧
          r'.tallies.pathChanges = r.tallies.pathChanges ∧ r'.tallies.divergences = r.tallies.divergences ∧
          (¬r.LapsesUnder p → ∃ k, r'.held = (r.granted k).held ∧ r'.unplaced = (r.granted k).unplaced)) ∧
        (r.LapsesUnder p →
          r'.state = .lapsed ∧ r'.resume = none ∧ r'.held = [] ∧ r'.unplaced = [] ∧ r.identity ∉ t.waiting ∧
          t.searchStatus r.identity = .noSearch ∧ t.summary &&& 0x20 = 0x20) ∧
        (¬r.LapsesUnder p → r.EntersUnder p →
          r'.state = .bypass ∧
          r'.resume = some (if r.stateLeft p = .converged then .converged else .settling) ∧
          t.searchStatus r.identity = .noSearch) ∧
        (¬r.LapsesUnder p → r.ReturnsUnder p →
          r'.state = (match r.resume with | some .converged => .converged | _ => .settling) ∧ r'.resume = none ∧
          (r'.state = .settling → p.searchOn = true → 1 ≤ p.windowLimit →
            t.searchStatus r.identity ≠ .noSearch)) ∧
        (¬r.LapsesUnder p → ¬r.EntersUnder p → ¬r.ReturnsUnder p →
          r'.resume = r.resume ∧
          (r.state = .settling ∨ r.state = .converged → r'.state = r.stateLeft p) ∧
          (r.state = .bypass ∨ r.state = .transparent → r'.state = r.state))

/-- R8, R46, R83, R88, R158: the alarms that block-end work adds to a record, and the summary it leaves: RECORD_ALARM is
added exactly when a record's alarm set has gained a kind, LAPSE exactly when a record has lapsed, and nothing else. -/
def Obligations.BlockEndAlarms : Prop :=
  ∀ s : State, s.running = true → s.blockEndDue = true → s.TableSound →
    ∃ t, exec .blockEnd s = .next t ∧
      (∀ r ∈ s.records, r.state ≠ .lapsed →
        ∃ r', t.recordOf r.identity = some r' ∧
          r'.alarms = r.alarms |||
            (if r.block.clip then 0x4 else 0x0) |||
            (if r.Qualifying ∧ r.block.energyOut < r.block.energyIn * 4 then 0x2 else 0x0) |||
            (if r.Qualifying ∧ r.DivergentUnder (s.settings.profiles.get r.profile) then 0x1 else 0x0)) ∧
      (t.summary.getLsbD 4 = true ↔ s.summary.getLsbD 4 = true ∨
        ∃ r ∈ s.records, (t.recordOf r.identity).map (·.alarms) ≠ some r.alarms) ∧
      (t.summary.getLsbD 5 = true ↔ s.summary.getLsbD 5 = true ∨
        ∃ r ∈ s.records, r.state ≠ .lapsed ∧ (t.recordOf r.identity).map (·.state) = some .lapsed) ∧
      ∀ k < 8, k ≠ 4 → k ≠ 5 → t.summary.getLsbD k = s.summary.getLsbD k

/-! ## The transitions as steps of their own -/

/-- PROMOTION, PATH_CHANGE, ENTRY_TO_BYPASS and RETURN_FROM_BYPASS as steps make the transition exactly when its
condition stands (that they are steps at all is the model's choice, notes/assumptions/3.md; the transitions are those of
R84, R85, R87, R153 and R154). -/
def Obligations.SupervisorTransitions : Prop :=
  ∀ (s : State) (id : Identity) (r : Record), s.running = true → s.TableSound → s.recordOf id = some r →
    exec (.promotion id) s = .next
      (if r.state = .settling ∧ 4 ≤ r.passCount then
        { s with
          records := s.records.map fun q =>
            if q.identity = id then { r with state := .converged, passCount := 0 } else q }
      else s) ∧
    exec (.pathChange id) s = .next
      (if r.state = .converged ∧ 8 ≤ r.failCount then
        let changed : State :=
          { s with
            records := s.records.map fun q =>
              if q.identity = id then
                { r with
                  state := .settling, passCount := 0, failCount := 0
                  tallies := { r.tallies with pathChanges := min 65535 (r.tallies.pathChanges + 1) } }
              else q }
        let p := s.settings.profiles.get r.profile
        if p.searchOn = true ∧ 1 ≤ p.windowLimit then changed.request .priority id
        else changed
      else s) ∧
    (¬((r.state = .settling ∨ r.state = .converged) ∧ 50 ≤ r.toneCount) →
      exec (.entryToBypass id) s = .next s) ∧
    ((r.state = .settling ∨ r.state = .converged) → 50 ≤ r.toneCount →
      ∃ t, exec (.entryToBypass id) s = .next t ∧
        t.records = (s.records.map fun q =>
          if q.identity = id then
            { r with
              state := .bypass
              resume := some (if r.state = .converged then .converged else .settling)
              quietCount := 0 }
          else q) ∧
        t.searchStatus id = .noSearch ∧ s.SearchDropped t id ∧
        t = { s with
          records := t.records, priorityLane := t.priorityLane, ordinaryLane := t.ordinaryLane, slots := t.slots }) ∧
    (¬(r.state = .bypass ∧ 32 ≤ r.quietCount) → exec (.returnFromBypass id) s = .next s) ∧
    (r.state = .bypass → 32 ≤ r.quietCount →
      let back : RecordState := match r.resume with | some .converged => .converged | _ => .settling
      let returned : State :=
        { s with
          records := s.records.map fun q =>
            if q.identity = id then { r with state := back, resume := none, toneCount := 0, quietCount := 0 }
            else q }
      exec (.returnFromBypass id) s = .next
        (if back = .settling ∧ (s.settings.profiles.get r.profile).searchOn = true ∧
            1 ≤ (s.settings.profiles.get r.profile).windowLimit then
          returned.request .ordinary id else returned))

/-- IDLE_LAPSE as a step, where its condition stands (that it is a step at all is the model's choice,
notes/assumptions/3.md; the lapse is that of R157 and R158), and where it does not. -/
def Obligations.IdleLapseReleases : Prop :=
  ∀ (s : State) (id : Identity) (r : Record), s.running = true → s.TableSound → s.recordOf id = some r →
    let limit := (s.settings.profiles.get r.profile).idleLimit
    (¬(r.state ≠ .lapsed ∧ r.block.idleRose = true ∧ limit ≠ 0 ∧ limit * 125 ≤ r.idleCount) →
      exec (.idleLapse id) s = .next s) ∧
    (r.state ≠ .lapsed → r.block.idleRose = true → limit ≠ 0 → limit * 125 ≤ r.idleCount →
      ∃ t, exec (.idleLapse id) s = .next t ∧
        t.recordOf id = some { r with state := .lapsed, resume := none, held := [], unplaced := [] } ∧
        id ∉ t.waiting ∧ t.searchStatus id = .noSearch ∧ s.SearchDropped t id ∧
        t.summary = s.summary ||| 0x20 ∧ s.OthersKept t id ∧ t.GrantedAs (s.released id) id ∧
        (s.waiting = [] → t.free = s.free + r.held.length) ∧
        s.SameApart t ∧ t.part = { s.part with grants := t.part.grants })

/-! ## The search unit and the pool -/

/-- R95, R97, R98: the arbiter fills the free slots from the heads of the lanes, the priority lane first, each search
starting with zero values; a request joins a lane, moves to the priority lane or merges, by the search status; and the
search status names the place where the record stands. -/
def Obligations.ArbiterFillsFreeSlots : Prop :=
  ∀ (s : State) (id : Identity),
    let n := 4 - s.slots.length
    s.arbitrate =
      { s with
        slots := s.slots ++ ((s.priorityLane ++ s.ordinaryLane).take n).map fun id =>
          { identity := id, correlation := List.replicate 1024 0, referenceSum := 0, qualifying := 0, elapsed := 0 }
        priorityLane := s.priorityLane.drop n
        ordinaryLane := s.ordinaryLane.drop (n - s.priorityLane.length) } ∧
    s.request .ordinary id =
      (if s.searchStatus id = .noSearch then State.arbitrate { s with ordinaryLane := s.ordinaryLane ++ [id] }
      else s) ∧
    s.request .priority id =
      (match s.searchStatus id with
      | .noSearch => State.arbitrate { s with priorityLane := s.priorityLane ++ [id] }
      | .waitingOrdinary =>
        State.arbitrate
          { s with
            ordinaryLane := s.ordinaryLane.filter (· != id), priorityLane := s.priorityLane ++ [id] }
      | .waitingPriority => s
      | .running => s) ∧
    (s.SearchSound →
      (s.searchStatus id = .running ↔ ∃ sl ∈ s.slots, sl.identity = id) ∧
      (s.searchStatus id = .waitingPriority ↔ id ∈ s.priorityLane) ∧
      (s.searchStatus id = .waitingOrdinary ↔ id ∈ s.ordinaryLane))

/-- R4, R123, R124: grants go one at a time to the head of the waiting list at its strongest unplaced offset, the window
taking its place in ascending offset order, and go on until no window is free or no record waits. -/
def Obligations.GrantsGoInTurn : Prop :=
  (∀ (s : State) (id : Identity) (rest : List Identity) (r : Record) (offset : Nat) (more : List Nat),
    s.TableSound → 0 < s.free → s.waiting = id :: rest → s.recordOf id = some r → r.unplaced = offset :: more →
    s.grantAll = State.grantAll
      { s with
        records := s.records.map fun q =>
          if q.identity = id then
            { r with
              held := insertWindow { offset := offset, coefficients := List.replicate 64 0 } r.held
              unplaced := more }
          else q
        free := s.free - 1
        part := { s.part with grants := min 65535 (s.part.grants + 1) }
        waiting := if more = [] then rest else rest ++ [id] }) ∧
  (∀ s : State, s.free = 0 ∨ s.waiting = [] → s.grantAll = s) ∧
  (∀ s : State, s.TableSound → s.waiting.Nodup →
    (∀ id ∈ s.waiting, ∃ r ∈ s.records, r.identity = id ∧ r.unplaced ≠ []) →
    s.grantAll.free = 0 ∨ s.grantAll.waiting = []) ∧
  (∀ (w : Window) (held : List Window), held.Pairwise (fun a b => a.offset ≤ b.offset) →
    (insertWindow w held).Perm (w :: held) ∧ (insertWindow w held).Pairwise (fun a b => a.offset ≤ b.offset))

/-- R104, R106: the bands of a search's 1024 correlations, their scores and peak lags, and the candidates in rank
order. -/
def Obligations.CandidatesAreRanked : Prop :=
  ∀ correlation : List Int, correlation.length = 1024 →
    (∀ n < 32, ∃ score peak, bandOf correlation n = { number := n, score := score, peak := peak } ∧
      32 * n ≤ peak ∧ peak < 32 * n + 32 ∧ (correlation.getD peak 0).natAbs = score ∧
      (∀ j, 32 * n ≤ j → j < 32 * n + 32 → (correlation.getD j 0).natAbs ≤ score) ∧
      (∀ j, 32 * n ≤ j → j < peak → (correlation.getD j 0).natAbs < score)) ∧
    (∀ b : Band, b ∈ candidatesOf correlation ↔
      (∃ n < 32, b = bandOf correlation n) ∧ ∀ j < 1024, (correlation.getD j 0).natAbs ≤ b.score * 8) ∧
    (candidatesOf correlation).Pairwise fun a b =>
      b.score < a.score ∨ (a.score = b.score ∧ a.number < b.number)

/-- R107: the placement by its steps. It starts empty and takes the candidates' peak lags one at a time: with the limit
reached, or the peak within a listed window, nothing is added; else the start is the peak less 16, clamped, and where its
window overlaps listed ones it moves behind, or before, the one of lowest offset, clamped again; the start is added when
its window overlaps none. So a placement keeps to the window limit and to the span and its windows do not overlap. -/
def Obligations.PlacementIsSound : Prop :=
  (∀ (limit : Nat) (correlation : List Int),
    searchPlacement limit correlation = placementOf limit ((candidatesOf correlation).map (·.peak))) ∧
  (∀ limit : Nat, placementOf limit [] = []) ∧
  (∀ (limit : Nat) (peaks : List Nat) (peak : Nat),
    let placed := placementOf limit peaks
    let next := placementOf limit (peaks ++ [peak])
    let free (start : Nat) : Prop := ∀ o ∈ placed, start + 63 < o ∨ o + 63 < start
    let start := min 960 (peak - 16)
    (limit ≤ placed.length → next = placed) ∧
    (placed.length < limit →
      ((∃ o ∈ placed, o ≤ peak ∧ peak ≤ o + 63) → next = placed) ∧
      ((∀ o ∈ placed, ¬(o ≤ peak ∧ peak ≤ o + 63)) →
        (free start → next = placed ++ [start]) ∧
        (∀ w ∈ placed, ¬(start + 63 < w ∨ w + 63 < start) →
          (∀ o ∈ placed, ¬(start + 63 < o ∨ o + 63 < start) → w ≤ o) →
          let moved := if w + 63 < peak then min 960 (w + 64) else w - 64
          (free moved → next = placed ++ [moved]) ∧ (¬free moved → next = placed))))) ∧
  (∀ (limit : Nat) (peaks : List Nat),
    (placementOf limit peaks).length ≤ limit ∧
    (∀ o ∈ placementOf limit peaks, o ≤ 960) ∧
    (placementOf limit peaks).Pairwise (fun a b => a + 63 < b ∨ b + 63 < a))

/-- R105, R109, R110: a search that ends without a placement. NO_ECHO, where the strongest correlation times 32 is below
the reference sum, releases the record's windows and unplaced offsets; a timeout keeps them. That the two are steps of
their own is the model's choice (notes/assumptions/3.md). -/
def Obligations.SearchEndsWithoutPlacement : Prop :=
  ∀ (s : State) (id : Identity) (r : Record) (sl : Slot),
    s.running = true → s.TableSound → s.SearchSound → s.recordOf id = some r → sl ∈ s.slots → sl.identity = id →
    (2048 ≤ sl.qualifying → 0 < sl.referenceSum → (∀ c ∈ sl.correlation, c.natAbs * 32 < sl.referenceSum) →
      ∃ t, exec (.searchComplete id) s = .next t ∧
        t.recordOf id = some
          { r with
            held := [], unplaced := [], lastResult := .noEcho
            tallies := { r.tallies with searchesCompleted := min 65535 (r.tallies.searchesCompleted + 1) } } ∧
        id ∉ t.waiting ∧ t.searchStatus id = .noSearch ∧ s.SlotFreed t id ∧ s.OthersKept t id ∧
        t.GrantedAs (s.released id) id ∧ (s.waiting = [] → t.free = s.free + r.held.length) ∧
        t.summary = s.summary ∧ s.SameApart t ∧ t.part = { s.part with grants := t.part.grants }) ∧
    (sl.qualifying < 2048 → exec (.searchComplete id) s = .next s) ∧
    (sl.qualifying < 2048 → 16000 ≤ sl.elapsed →
      ∃ t, exec (.searchTimeout id) s = .next t ∧
        t.records = (s.records.map fun q => if q.identity = id then { r with lastResult := .inconclusive } else q) ∧
        t.searchStatus id = .noSearch ∧ s.SlotFreed t id ∧
        t = { s with
          records := t.records
          part := { s.part with inconclusiveSearches := min 65535 (s.part.inconclusiveSearches + 1) }
          priorityLane := t.priorityLane, ordinaryLane := t.ordinaryLane, slots := t.slots }) ∧
    (2048 ≤ sl.qualifying ∨ sl.elapsed < 16000 → exec (.searchTimeout id) s = .next s)

/-- R51, R105 to R109, R121, R122, R126: a search that ends PLACED. The record returns its windows and claims as many of
the placement's as are then free; a claimed window keeps the coefficients of the returned one at the same offset; the
rest are unplaced, with WINDOW_SHORT; the windows stand in ascending order; and a CONVERGED record whose held offsets
changed settles. -/
def Obligations.SearchPlacedInstalls : Prop :=
  ∀ (s : State) (id : Identity) (r : Record) (sl : Slot),
    s.running = true → s.TableSound → s.SearchSound → s.recordOf id = some r → sl ∈ s.slots → sl.identity = id →
    2048 ≤ sl.qualifying → sl.correlation.length = 1024 → (∃ c ∈ sl.correlation, sl.referenceSum ≤ c.natAbs * 32) →
    let placement := searchPlacement (s.settings.profiles.get r.profile).windowLimit sl.correlation
    let claimed := placement.take (s.free + r.held.length)
    let short := placement.drop (s.free + r.held.length)
    let settled := State.grantAll
      { s with
        records := s.records.map fun q => if q.identity = id then { q with held := [], unplaced := short } else q
        free := s.free + r.held.length - claimed.length
        waiting := (s.waiting.filter (· != id)) ++ (if short = [] then [] else [id]) }
    ∃ t, exec (.searchComplete id) s = .next t ∧
      ∃ r', t.recordOf id = some r' ∧
        r'.held.Pairwise (fun a b => a.offset < b.offset) ∧
        (r'.held.map (·.offset)).Perm claimed ∧
        (∀ w ∈ r'.held,
          w.coefficients = ((r.held.find? fun v => v.offset == w.offset).map (·.coefficients)).getD
            (List.replicate 64 0)) ∧
        r'.unplaced = short ∧ (short ≠ [] → id ∈ t.waiting) ∧ (short = [] → id ∉ t.waiting) ∧
        r'.alarms = (if short = [] then r.alarms else r.alarms ||| 0x8) ∧
        t.summary = (if short ≠ [] ∧ r.alarms &&& 0x8 = 0 then s.summary ||| 0x10 else s.summary) ∧
        (s.waiting = [] → t.free = s.free + r.held.length - claimed.length) ∧
        r' = { r with
          held := r'.held, unplaced := r'.unplaced, alarms := r'.alarms, lastResult := .placed
          tallies := { r.tallies with searchesCompleted := min 65535 (r.tallies.searchesCompleted + 1) }
          state :=
            if r.state = .converged ∧ r'.held.map (·.offset) ≠ r.held.map (·.offset) then .settling else r.state
          passCount :=
            if r.state = .converged ∧ r'.held.map (·.offset) ≠ r.held.map (·.offset) then 0 else r.passCount
          failCount :=
            if r.state = .converged ∧ r'.held.map (·.offset) ≠ r.held.map (·.offset) then 0 else r.failCount } ∧
        t.searchStatus id = .noSearch ∧ s.SlotFreed t id ∧ s.OthersKept t id ∧ t.GrantedAs settled id ∧
        s.SameApart t ∧ t.part = { s.part with grants := t.part.grants }

/-! ## Record commands -/

/-- R11: the checks of ATTACH in their order, and the refusal of each. -/
def Obligations.AttachRefusals : Prop :=
  ∀ (s : State) (id : Identity) (position profile mode : Byte), s.running = true → s.TableSound →
    let held : Bool := s.records.any fun r => r.identity == id &&
      !(r.state == .lapsed && r.position.val == position.toNat)
    let taken : Bool := s.records.any fun r => r.position.val == position.toNat && r.state != .lapsed
    let bound : Bool := s.records.any fun r => r.position.val == position.toNat
    (128 ≤ position.toNat →
      exec (.attach id position profile mode) s = .next (respond 0x01 (refusal s .badPosition))) ∧
    (position.toNat < 128 → 8 ≤ profile.toNat → profile ≠ 0xFF →
      exec (.attach id position profile mode) s = .next (respond 0x01 (refusal s .badProfile))) ∧
    (position.toNat < 128 → (profile.toNat < 8 ∨ profile = 0xFF) → mode ≠ 0x00 → mode ≠ 0x01 → mode ≠ 0xFF →
      exec (.attach id position profile mode) s = .next (respond 0x01 (refusal s .badField))) ∧
    (position.toNat < 128 → (profile.toNat < 8 ∨ profile = 0xFF) → (mode = 0x00 ∨ mode = 0x01 ∨ mode = 0xFF) →
      (held = true →
        exec (.attach id position profile mode) s = .next (respond 0x01 (refusal s .duplicateCircuit))) ∧
      (held = false → taken = true →
        exec (.attach id position profile mode) s = .next (respond 0x01 (refusal s .slotTaken))) ∧
      (held = false → bound = false → s.records.length = 96 →
        exec (.attach id position profile mode) s = .next (respond 0x01 (refuse
          { s with
            part := { s.part with attachRefusals := min 65535 (s.part.attachRefusals + 1) }
            summary := s.summary ||| 0x40 } .tableFull))))

/-- R12 to R15, R168: an ATTACH that passes its checks. The record it creates field by field, with the profile and mode
given or supplied by the lowest-numbered enabled rule that matches; its provisional claim; its search request; the
LAPSED record it replaces; the reference counts; the reply; and every other record as it was. -/
def Obligations.AttachCreates : Prop :=
  ∀ (s : State) (id : Identity) (pos : Position) (profile mode : Byte),
    s.running = true → s.TableSound → s.StatesSound →
    (∀ r ∈ s.records, r.identity = id → r.state = .lapsed ∧ r.position = pos) →
    (∀ r ∈ s.records, r.position = pos → r.state = .lapsed) →
    (s.records.length < 96 ∨ (s.recordAt pos).isSome = true) →
    (profile.toNat < 8 ∨ profile = 0xFF) → (mode = 0x00 ∨ mode = 0x01 ∨ mode = 0xFF) →
    let rule := s.settings.rules.toList.find? fun (rule : RouteRule) => rule.enabled &&
      decide (∀ k : Fin 16, rule.mask.getLsbD k = true ∨ id.getLsbD k = rule.base.getLsbD k)
    let number : ProfileNumber :=
      if profile = 0xFF then (rule.map (·.profile)).getD 0 else Fin.ofNat 8 profile.toNat
    let cancel : Bool :=
      if mode = 0x00 then true else if mode = 0x01 then false
      else if profile = 0xFF then decide ((rule.map (·.mode)).getD .cancel = .cancel) else true
    let p := s.settings.profiles.get number
    let claims : Bool := cancel && decide (1 ≤ p.windowLimit)
    let short : Bool := claims && decide (s.free = 0)
    let created : Record :=
      { identity := id
        position := pos
        profile := number
        state := if cancel then .settling else .transparent
        resume := none
        freeze := false
        held := if claims && !short then
          [{ offset := p.provisionalOffset, coefficients := List.replicate 64 0 }] else []
        unplaced := if short then [p.provisionalOffset] else []
        history := List.replicate 1024 0
        talk := .idle
        nearHold := 0
        gainIn := within p.gmin p.gmax 4096
        gainOut := within p.gmin p.gmax 4096
        padIn := none
        padOut := none
        background := 0
        noise := if id = 0xACE1 then 1 else id ^^^ 0xACE1
        passCount := 0
        failCount := 0
        toneCount := 0
        quietCount := 0
        idleCount := 0
        lastResult := .noResult
        alarms := if short then 0x8 else 0x0
        tallies := {}
        block := {}
        lastTin := 0
        lastXin := 0 }
    let searched : State := if claims && p.searchOn then s.request .ordinary id else s
    ∃ t, exec (.attach id (BitVec.ofNat 8 pos.val) profile mode) s = .next (respond 0x01
          { state := t
            status := .ok
            results :=
              [(if (s.recordAt pos).isSome then 0x01 else 0x00) ||| (if short then 0x04 else 0x00),
                BitVec.ofNat 8 number.val, if cancel then 0x00 else 0x01] }) ∧
      t.records = (s.records.filter fun r => r.position != pos) ++ [created] ∧
      (∀ n : ProfileNumber, t.refCounts.get n =
        s.refCounts.get n - (if (s.recordAt pos).any (fun r => r.profile == n) then 1 else 0) +
          (if n = number then 1 else 0)) ∧
      t.free = (if claims && !short then s.free - 1 else s.free) ∧
      t.waiting = (if short then s.waiting ++ [id] else s.waiting) ∧
      t.summary = (if short then s.summary ||| 0x10 else s.summary) ∧
      t.priorityLane = searched.priorityLane ∧ t.ordinaryLane = searched.ordinaryLane ∧ t.slots = searched.slots ∧
      t = { s with
        records := t.records, refCounts := t.refCounts, free := t.free, waiting := t.waiting, summary := t.summary
        priorityLane := t.priorityLane, ordinaryLane := t.ordinaryLane, slots := t.slots }

/-- R16, R17, R97, R99, R111, R123, R124: DETACH, with the release, the grants and the arbiter's work that follow. -/
def Obligations.DetachRemoves : Prop :=
  ∀ (s : State) (id : Identity), s.running = true → s.TableSound →
    (s.recordOf id = none → exec (.detach id) s = .next (respond 0x02 (refusal s .noRecord))) ∧
    (∀ r, s.recordOf id = some r →
      ∃ t, exec (.detach id) s = .next (respond 0x02
            { state := t, status := .ok, results := [if r.state = .lapsed then 0x02 else 0x00] }) ∧
        t.records.map (·.identity) = (s.records.map (·.identity)).filter (· != id) ∧
        s.OthersKept t id ∧ t.GrantedAs (s.released id) id ∧ t.recordAt r.position = none ∧
        (∀ n : ProfileNumber, t.refCounts.get n = s.refCounts.get n - (if n = r.profile then 1 else 0)) ∧
        id ∉ t.waiting ∧ t.searchStatus id = .noSearch ∧ s.SearchDropped t id ∧
        (s.waiting = [] → t.free = s.free + r.held.length) ∧ t.summary = s.summary ∧
        State.SameApart { s with refCounts := t.refCounts } t ∧ t.part = { s.part with grants := t.part.grants })

/-- R18: the checks of MODIFY in their order; and a MODIFY with every field not given and no gain reset. -/
def Obligations.ModifyRefusals : Prop :=
  ∀ (s : State) (id : Identity) (mode freeze profile : Byte) (padIn padOut : BitVec 16) (gainReset : Byte),
    s.running = true → s.TableSound →
    let goodPad (w : BitVec 16) : Bool :=
      w == 0x0000 || w == 0xFFFF || (decide (1024 ≤ w.toNat) && decide (w.toNat ≤ 16383))
    let fields : Bool :=
      (mode == 0x00 || mode == 0x01 || mode == 0xFF) && (freeze == 0x00 || freeze == 0x01 || freeze == 0xFF) &&
        (gainReset == 0x00 || gainReset == 0x01) && goodPad padIn && goodPad padOut
    (8 ≤ profile.toNat → profile ≠ 0xFF →
      exec (.modify id mode freeze profile padIn padOut gainReset) s =
        .next (respond 0x03 (refusal s .badProfile))) ∧
    ((profile.toNat < 8 ∨ profile = 0xFF) → fields = false →
      exec (.modify id mode freeze profile padIn padOut gainReset) s =
        .next (respond 0x03 (refusal s .badField))) ∧
    ((profile.toNat < 8 ∨ profile = 0xFF) → fields = true → s.recordOf id = none →
      exec (.modify id mode freeze profile padIn padOut gainReset) s =
        .next (respond 0x03 (refusal s .noRecord))) ∧
    ((profile.toNat < 8 ∨ profile = 0xFF) → fields = true →
      (s.recordOf id).any (fun r => r.state == .lapsed) = true →
      exec (.modify id mode freeze profile padIn padOut gainReset) s =
        .next (respond 0x03 (refusal s .recordLapsed))) ∧
    ((s.recordOf id).any (fun r => r.state != .lapsed) = true →
      exec (.modify id 0xFF 0xFF 0xFF 0xFFFF 0xFFFF 0x00) s =
        .next (respond 0x03 { state := s, status := .ok, results := [0x00] }))

/-- R18 to R20, R22, R123, R124: a MODIFY without a mode on a record that is not LAPSED: the profile change with its clamp
and its trim and the grants for the windows it releases, the gain reset, the pad overrides and freeze. -/
def Obligations.ModifyChanges : Prop :=
  ∀ (s : State) (id : Identity) (r : Record) (freeze profile : Byte) (padIn padOut : BitVec 16) (gainReset : Byte)
    (number : ProfileNumber),
    s.running = true → s.TableSound → s.recordOf id = some r → r.state ≠ .lapsed →
    (freeze = 0x00 ∨ freeze = 0x01 ∨ freeze = 0xFF) → (gainReset = 0x00 ∨ gainReset = 0x01) →
    (padIn = 0x0000 ∨ padIn = 0xFFFF ∨ (1024 ≤ padIn.toNat ∧ padIn.toNat ≤ 16383)) →
    (padOut = 0x0000 ∨ padOut = 0xFFFF ∨ (1024 ≤ padOut.toNat ∧ padOut.toNat ≤ 16383)) →
    (profile = 0xFF ∧ number = r.profile ∨ profile.toNat = number.val) →
    let p := s.settings.profiles.get number
    let gain (g : Nat) : Nat :=
      if gainReset = 0x01 then within p.gmin p.gmax 4096
      else if number = r.profile then g else within p.gmin p.gmax g
    let pad (w : BitVec 16) (old : Option Nat) : Option Nat :=
      if w = 0xFFFF then old else if w = 0x0000 then none else some w.toNat
    let held := if number = r.profile then r.held else r.held.take p.windowLimit
    let unplaced := if number = r.profile then r.unplaced else r.unplaced.take (p.windowLimit - r.held.length)
    let trimmed : State :=
      { s with
        records := s.records.map fun q => if q.identity = id then { q with held := held, unplaced := unplaced } else q
        free := s.free + (r.held.length - held.length)
        waiting := if number ≠ r.profile ∧ unplaced = [] then s.waiting.filter (· != id) else s.waiting }
    ∃ t, exec (.modify id 0xFF freeze profile padIn padOut gainReset) s = .next (respond 0x03
          { state := t, status := .ok, results := [0x00] }) ∧
      t.recordOf id = some
        { r with
          profile := number
          gainIn := gain r.gainIn
          gainOut := gain r.gainOut
          padIn := pad padIn r.padIn
          padOut := pad padOut r.padOut
          freeze := if freeze = 0xFF then r.freeze else decide (freeze = 0x01)
          held := held
          unplaced := unplaced } ∧
      s.OthersKept t id ∧
      t.GrantedAs (if held.length = r.held.length then trimmed else trimmed.grantAll) id ∧
      (∀ n : ProfileNumber, t.refCounts.get n =
        if number = r.profile then s.refCounts.get n
        else if n = number then s.refCounts.get n + 1
        else if n = r.profile then s.refCounts.get n - 1
        else s.refCounts.get n) ∧
      (s.waiting = [] → t.free = s.free + (r.held.length - held.length) ∧ t.waiting = []) ∧
      t.priorityLane = s.priorityLane ∧ t.ordinaryLane = s.ordinaryLane ∧ t.slots = s.slots ∧
      t.summary = s.summary ∧
      State.SameApart { s with refCounts := t.refCounts } t ∧ t.part = { s.part with grants := t.part.grants }

/-- R18, R21: the mode change of MODIFY, with nothing else given, in every state it meets: to TRANSPARENT with the release
and the end of any search; to CANCEL with a provisional claim and a request; and the cases that change nothing. A MODIFY
that gives a mode with other changes is the MODIFY of the others and then that of the mode, so the claim is made under the
profile just set. -/
def Obligations.ModifyMode : Prop :=
  ∀ (s : State) (id : Identity) (r : Record), s.running = true → s.TableSound → s.recordOf id = some r →
    let p := s.settings.profiles.get r.profile
    (r.state = .settling ∨ r.state = .converged ∨ r.state = .bypass →
      exec (.modify id 0x00 0xFF 0xFF 0xFFFF 0xFFFF 0x00) s =
        .next (respond 0x03 { state := s, status := .ok, results := [0x00] }) ∧
      ∃ t, exec (.modify id 0x01 0xFF 0xFF 0xFFFF 0xFFFF 0x00) s = .next (respond 0x03
            { state := t, status := .ok, results := [0x00] }) ∧
        t.recordOf id = some
          { r with
            state := .transparent, resume := none, held := [], unplaced := []
            passCount := 0, failCount := 0, toneCount := 0, quietCount := 0 } ∧
        id ∉ t.waiting ∧ t.searchStatus id = .noSearch ∧ s.SearchDropped t id ∧ s.OthersKept t id ∧
        t.GrantedAs (s.released id) id ∧ (s.waiting = [] → t.free = s.free + r.held.length) ∧ t.summary = s.summary ∧
        s.SameApart t ∧ t.part = { s.part with grants := t.part.grants }) ∧
    (r.state = .transparent →
      exec (.modify id 0x01 0xFF 0xFF 0xFFFF 0xFFFF 0x00) s =
        .next (respond 0x03 { state := s, status := .ok, results := [0x00] }) ∧
      (s.StatesSound →
        let claims : Bool := decide (1 ≤ p.windowLimit)
        let short : Bool := claims && decide (s.free = 0)
        let searched : State := if claims && p.searchOn then s.request .ordinary id else s
        ∃ t, exec (.modify id 0x00 0xFF 0xFF 0xFFFF 0xFFFF 0x00) s = .next (respond 0x03
              { state := t, status := .ok, results := [if short then 0x04 else 0x00] }) ∧
          t.records = (s.records.map fun q =>
            if q.identity = id then
              { r with
                state := .settling
                held := if claims && !short then
                  [{ offset := p.provisionalOffset, coefficients := List.replicate 64 0 }] else []
                unplaced := if short then [p.provisionalOffset] else []
                alarms := if short then r.alarms ||| 0x8 else r.alarms }
            else q) ∧
          t.free = (if claims && !short then s.free - 1 else s.free) ∧
          t.waiting = (if short then s.waiting ++ [id] else s.waiting) ∧
          t.summary = (if short ∧ r.alarms &&& 0x8 = 0 then s.summary ||| 0x10 else s.summary) ∧
          t.priorityLane = searched.priorityLane ∧ t.ordinaryLane = searched.ordinaryLane ∧
          t.slots = searched.slots ∧ t.part = s.part ∧ s.SameApart t)) ∧
    (r.state ≠ .lapsed →
      ∀ (mode freeze profile : Byte) (padIn padOut : BitVec 16) (gainReset : Byte),
        (mode = 0x00 ∨ mode = 0x01) → (profile.toNat < 8 ∨ profile = 0xFF) →
        (freeze = 0x00 ∨ freeze = 0x01 ∨ freeze = 0xFF) → (gainReset = 0x00 ∨ gainReset = 0x01) →
        (padIn = 0x0000 ∨ padIn = 0xFFFF ∨ (1024 ≤ padIn.toNat ∧ padIn.toNat ≤ 16383)) →
        (padOut = 0x0000 ∨ padOut = 0xFFFF ∨ (1024 ≤ padOut.toNat ∧ padOut.toNat ≤ 16383)) →
        ∃ u t, exec (.modify id 0xFF freeze profile padIn padOut gainReset) s = .next u ∧
          exec (.modify id mode 0xFF 0xFF 0xFFFF 0xFFFF 0x00) u = .next t ∧
          exec (.modify id mode freeze profile padIn padOut gainReset) s = .next t)

/-- R23, R24, R112: REBIND, its checks in their order and its effect. -/
def Obligations.RebindMoves : Prop :=
  ∀ (s : State) (id : Identity) (position : Byte), s.running = true → s.TableSound →
    (128 ≤ position.toNat → exec (.rebind id position) s = .next (respond 0x04 (refusal s .badPosition))) ∧
    (∀ pos : Position, position.toNat = pos.val →
      (s.recordOf id = none → exec (.rebind id position) s = .next (respond 0x04 (refusal s .noRecord))) ∧
      (∀ r, s.recordOf id = some r →
        (r.state = .lapsed → exec (.rebind id position) s = .next (respond 0x04 (refusal s .recordLapsed))) ∧
        (r.state ≠ .lapsed → (∃ q ∈ s.records, q.position = pos) →
          exec (.rebind id position) s = .next (respond 0x04 (refusal s .slotTaken))) ∧
        (r.state ≠ .lapsed → (¬∃ q ∈ s.records, q.position = pos) →
          exec (.rebind id position) s = .next (respond 0x04
            { state :=
                { s with
                  records := s.records.map fun q =>
                    if q.identity = id then
                      { r with
                        position := pos
                        history := List.replicate 1024 0
                        talk := .idle
                        nearHold := 0
                        state := if r.state = .converged then .settling else r.state
                        passCount := if r.state = .converged then 0 else r.passCount
                        failCount := if r.state = .converged then 0 else r.failCount
                        block := {}
                        lastTin := 0
                        lastXin := 0 }
                    else q
                  slots := s.slots.map fun sl =>
                    if sl.identity = id then
                      { identity := id, correlation := List.replicate 1024 0, referenceSum := 0, qualifying := 0
                        elapsed := 0 }
                    else sl }
              status := .ok
              results := [] }))))

/-- R25, R112: MOVE_LINE, its checks in their order and its effect on every record of the from-line at once. -/
def Obligations.MoveLineMoves : Prop :=
  ∀ (s : State) (fromLine toLine : Byte), s.running = true → s.TableSound → s.SearchSound →
    (4 ≤ fromLine.toNat ∨ 4 ≤ toLine.toNat ∨ fromLine = toLine →
      exec (.moveLine fromLine toLine) s = .next (respond 0x05 (refusal s .badField))) ∧
    (fromLine.toNat < 4 → toLine.toNat < 4 → fromLine ≠ toLine →
      let occupied : Bool := s.records.any fun r => r.position.val / 32 == fromLine.toNat &&
        s.records.any fun q => q.position.val == toLine.toNat * 32 + r.position.val % 32
      (occupied = true → exec (.moveLine fromLine toLine) s = .next (respond 0x05 (refusal s .lineOccupied))) ∧
      (occupied = false →
        ∃ t, exec (.moveLine fromLine toLine) s = .next (respond 0x05
              { state := t
                status := .ok
                results := [BitVec.ofNat 8 (s.records.countP fun r => r.position.val / 32 == fromLine.toNat)] }) ∧
          t.records.map (·.identity) = s.records.map (·.identity) ∧
          (∀ r ∈ s.records, r.position.val / 32 ≠ fromLine.toNat →
            r ∈ t.records ∧ ∀ sl ∈ s.slots, sl.identity = r.identity → sl ∈ t.slots) ∧
          (∀ r ∈ s.records, r.position.val / 32 = fromLine.toNat →
            ∃ r' ∈ t.records, r'.position.val = toLine.toNat * 32 + r.position.val % 32 ∧
              (r.state = .lapsed → r' = { r with position := r'.position }) ∧
              (r.state ≠ .lapsed →
                r' = { r with
                  position := r'.position
                  history := List.replicate 1024 0
                  talk := .idle
                  nearHold := 0
                  state := if r.state = .converged then .settling else r.state
                  passCount := if r.state = .converged then 0 else r.passCount
                  failCount := if r.state = .converged then 0 else r.failCount
                  block := {}
                  lastTin := 0
                  lastXin := 0 } ∧
                (∀ sl ∈ s.slots, sl.identity = r.identity →
                  { identity := r.identity, correlation := List.replicate 1024 0, referenceSum := 0, qualifying := 0
                    elapsed := 0 } ∈ t.slots))) ∧
          t.slots.map (·.identity) = s.slots.map (·.identity) ∧
          t = { s with records := t.records, slots := t.slots }))

/-- R26, R98: RESEARCH, its checks in their order and what its request does to the record's search status. -/
def Obligations.ResearchActs : Prop :=
  ∀ (s : State) (id : Identity) (lane : Byte), s.running = true →
    (lane ≠ 0x00 → lane ≠ 0x01 → exec (.research id lane) s = .next (respond 0x06 (refusal s .badField))) ∧
    ((lane = 0x00 ∨ lane = 0x01) →
      (s.recordOf id = none → exec (.research id lane) s = .next (respond 0x06 (refusal s .noRecord))) ∧
      (∀ r, s.recordOf id = some r →
        (r.state = .lapsed → exec (.research id lane) s = .next (respond 0x06 (refusal s .recordLapsed))) ∧
        (r.state = .transparent ∨ r.state = .bypass →
          exec (.research id lane) s = .next (respond 0x06 (refusal s .wrongState))) ∧
        (r.state = .settling ∨ r.state = .converged →
          let t : State :=
            match s.searchStatus id with
            | .noSearch =>
              if lane = 0x00 then State.arbitrate { s with ordinaryLane := s.ordinaryLane ++ [id] }
              else State.arbitrate { s with priorityLane := s.priorityLane ++ [id] }
            | .waitingOrdinary =>
              if lane = 0x00 then s
              else State.arbitrate
                { s with
                  ordinaryLane := s.ordinaryLane.filter (· != id), priorityLane := s.priorityLane ++ [id] }
            | .waitingPriority => s
            | .running => s
          exec (.research id lane) s = .next (respond 0x06
            { state := t
              status := .ok
              results :=
                [if s.searchStatus id = .noSearch then 0x00 else 0x08,
                  match t.searchStatus id with
                  | .noSearch => 0x00 | .waitingPriority => 0x01 | .waitingOrdinary => 0x02 | .running => 0x03] }))))

/-- R27: LOOK changes nothing and returns the record's fields in 60 bytes. -/
def Obligations.LookReports : Prop :=
  ∀ (s : State) (id : Identity), s.running = true →
    (s.recordOf id = none → exec (.look id) s = .next (respond 0x10 (refusal s .noRecord))) ∧
    (∀ r, s.recordOf id = some r →
      ∃ bytes : List Byte,
        exec (.look id) s = .next (respond 0x10 { state := s, status := .ok, results := bytes }) ∧
        bytes.length = 60 ∧
        bytes.take 8 =
          [id.extractLsb' 8 8, id.extractLsb' 0 8, BitVec.ofNat 8 r.position.val, BitVec.ofNat 8 r.profile.val,
            (match r.state with
              | .settling => 0x00 | .converged => 0x01 | .bypass => 0x02 | .transparent => 0x03 | .lapsed => 0x04),
            (match r.resume with | none => 0xFF | some .settling => 0x00 | some .converged => 0x01),
            if r.freeze then 0x01 else 0x00, BitVec.ofNat 8 r.held.length] ∧
        (bytes.drop 8).take 6 = (List.range 3).flatMap (fun i =>
          twoBytes (match r.held[i]? with | some w => w.offset | none => 0xFFFF)) ∧
        (bytes.drop 14).take 7 = BitVec.ofNat 8 r.unplaced.length :: (List.range 3).flatMap (fun i =>
          twoBytes (match r.unplaced[i]? with | some o => o | none => 0xFFFF)) ∧
        (bytes.drop 21).take 11 =
          [(match r.talk with | .idle => 0x00 | .far => 0x01 | .near => 0x02 | .double => 0x03 : Byte)] ++
            twoBytes r.nearHold ++ twoBytes r.gainIn ++ twoBytes r.gainOut ++
            twoBytes (r.padIn.getD 0) ++ twoBytes (r.padOut.getD 0) ∧
        (bytes.drop 32).take 8 =
          twoBytes r.background ++ [r.noise.extractLsb' 8 8, r.noise.extractLsb' 0 8,
            BitVec.ofNat 8 r.passCount, BitVec.ofNat 8 r.failCount, BitVec.ofNat 8 r.toneCount,
            BitVec.ofNat 8 r.quietCount] ∧
        (bytes.drop 40).take 6 =
          [BitVec.ofNat 8 (r.idleCount / 65536), BitVec.ofNat 8 (r.idleCount / 256), BitVec.ofNat 8 r.idleCount,
            (match s.searchStatus id with
              | .noSearch => 0x00 | .waitingPriority => 0x01 | .waitingOrdinary => 0x02 | .running => 0x03),
            (match r.lastResult with | .noResult => 0x00 | .placed => 0x01 | .noEcho => 0x02 | .inconclusive => 0x03),
            r.alarms.setWidth 8] ∧
        bytes.drop 46 =
          twoBytes r.tallies.convergedBlocks ++ twoBytes r.tallies.doubleTalkBlocks ++
            twoBytes r.tallies.suppressedBlocks ++ twoBytes r.tallies.clipBlocks ++
            twoBytes r.tallies.searchesCompleted ++ twoBytes r.tallies.pathChanges ++
            twoBytes r.tallies.divergences)

/-- R28, R29: LOOK_WINDOW and FIND. -/
def Obligations.LookWindowAndFind : Prop :=
  (∀ (s : State) (id : Identity) (index : Byte), s.running = true →
    (s.recordOf id = none → exec (.lookWindow id index) s = .next (respond 0x11 (refusal s .noRecord))) ∧
    (∀ r, s.recordOf id = some r →
      (r.held.length ≤ index.toNat →
        exec (.lookWindow id index) s = .next (respond 0x11 (refusal s .badField))) ∧
      (∀ w, r.held[index.toNat]? = some w → w.coefficients.length = 64 →
        exec (.lookWindow id index) s = .next (respond 0x11
          { state := s
            status := .ok
            results := twoBytes w.offset ++ (List.range 64).flatMap (fun k =>
              [(w.coefficients.getD k 0).extractLsb' 8 8, (w.coefficients.getD k 0).extractLsb' 0 8]) })))) ∧
  (∀ (s : State) (position : Byte), s.running = true → s.TableSound →
    (127 < position.toNat → exec (.find position) s = .next (respond 0x12 (refusal s .badPosition))) ∧
    (position.toNat ≤ 127 → (∀ r ∈ s.records, r.position.val ≠ position.toNat) →
      exec (.find position) s = .next (respond 0x12 (refusal s .noRecord))) ∧
    (∀ r ∈ s.records, r.position.val = position.toNat →
      exec (.find position) s = .next (respond 0x12
        { state := s
          status := .ok
          results := [r.identity.extractLsb' 8 8, r.identity.extractLsb' 0 8,
            match r.state with
            | .settling => 0x00 | .converged => 0x01 | .bypass => 0x02 | .transparent => 0x03 | .lapsed => 0x04] })))

/-- R30: LIST. -/
def Obligations.ListAnswers : Prop :=
  ∀ (s : State) (states alarms : Byte) (start : Identity), s.running = true → s.TableSound →
    (states &&& 0xE0 ≠ 0 ∨ alarms &&& 0xF0 ≠ 0 →
      exec (.list states alarms start) s = .next (respond 0x13 (refusal s .badField))) ∧
    (states &&& 0xE0 = 0 → alarms &&& 0xF0 = 0 →
      ∃ ids : List Identity,
        ids.Pairwise (fun a b => a < b) ∧
        (∀ id, id ∈ ids ↔ ∃ r ∈ s.records, r.identity = id ∧ start ≤ id ∧
          (match r.state with
            | .settling => states.getLsbD 0
            | .converged => states.getLsbD 1
            | .bypass => states.getLsbD 2
            | .transparent => states.getLsbD 3
            | .lapsed => states.getLsbD 4) = true ∧
          (alarms = 0 ∨ ∃ k : Fin 4, alarms.getLsbD k = true ∧ r.alarms.getLsbD k = true)) ∧
        exec (.list states alarms start) s = .next (respond 0x13
          { state := s
            status := .ok
            results :=
              [if 24 < ids.length then 0x01 else 0x00, BitVec.ofNat 8 (min 24 ids.length)] ++
                (ids.take 24).flatMap fun id => [id.extractLsb' 8 8, id.extractLsb' 0 8] }))

/-- R31: ACK_ALARMS. -/
def Obligations.AckAlarmsRemoves : Prop :=
  ∀ (s : State) (id : Identity) (alarms : Byte), s.running = true → s.TableSound →
    (alarms &&& 0xF0 ≠ 0 → exec (.ackAlarms id alarms) s = .next (respond 0x14 (refusal s .badField))) ∧
    (alarms &&& 0xF0 = 0 →
      (s.recordOf id = none → exec (.ackAlarms id alarms) s = .next (respond 0x14 (refusal s .noRecord))) ∧
      (∀ r, s.recordOf id = some r →
        ∃ remaining : AlarmSet,
          (∀ k < 4, remaining.getLsbD k = (r.alarms.getLsbD k && !alarms.getLsbD k)) ∧
          exec (.ackAlarms id alarms) s = .next (respond 0x14
            { state :=
                { s with
                  records := s.records.map fun q =>
                    if q.identity = id then { r with alarms := remaining } else q }
              status := .ok
              results := [remaining.setWidth 8] })))

/-! ## Profiles, route rules and the settings store -/

/-- R165 to R167: PROFILE_READ and PROFILE_WRITE, their checks in their order, and the clamping of every numeric field
in its two passes, with the yes/no fields kept. That a PROFILE_WRITE row with a layout of other than 36 bytes answers
BAD_LENGTH, as R180 answers such a frame, is the model's choice (notes/assumptions/13.md). -/
def Obligations.ProfileReadAndWrite : Prop :=
  (∀ (s : State) (number : Byte) (layout : List Byte), s.running = true →
    (8 ≤ number.toNat →
      exec (.profileRead number) s = .next (respond 0x20 (refusal s .badProfile)) ∧
      (layout.length = 36 →
        exec (.profileWrite number layout) s = .next (respond 0x21 (refusal s .badProfile)))) ∧
    (layout.length ≠ 36 → exec (.profileWrite number layout) s = .next (respond 0x21 (refusal s .badLength))) ∧
    (∀ n : ProfileNumber, number.toNat = n.val →
      exec (.profileRead number) s = .next (respond 0x20
        { state := s
          status := .ok
          results := [number, BitVec.ofNat 8 (s.refCounts.get n)] ++ profileBytes (s.settings.profiles.get n) }) ∧
      (layout.length = 36 →
        let flags : Bool := [0, 14, 15, 20, 21, 30].all fun i => layout.getD i 0 == 0x00 || layout.getD i 0 == 0x01
        let written := layoutProfile layout
        (flags = false → exec (.profileWrite number layout) s = .next (respond 0x21 (refusal s .badField))) ∧
        (flags = true → s.refCounts.get n ≠ 0 →
          exec (.profileWrite number layout) s = .next (respond 0x21 (refusal s .profileInUse))) ∧
        (flags = true → s.refCounts.get n = 0 →
          ∃ t, exec (.profileWrite number layout) s = .next (respond 0x21
              { state := t, status := if clampProfile written = written then .ok else .clamped, results := [] }) ∧
            t.settings.profiles.get n = clampProfile written ∧
            (∀ m : ProfileNumber, m ≠ n → t.settings.profiles.get m = s.settings.profiles.get m) ∧
            t.settings.rules = s.settings.rules ∧ t = { s with settings := t.settings })))) ∧
  (∀ q : Profile,
    (clampProfile q).InRange ∧ (q.InRange → clampProfile q = q) ∧
    clampProfile q =
      { searchOn := q.searchOn
        provisionalOffset := min q.provisionalOffset 960
        windowLimit := min q.windowLimit 3
        stepExponent := min (max q.stepExponent 1) 8
        regularisation := min (max q.regularisation 1) 65535
        referenceFloor := min q.referenceFloor 8191
        speechFloor := min (max q.speechFloor 1) 8191
        doubleTalkShift := min (max q.doubleTalkShift 1) 3
        nearHold := min q.nearHold 4095
        suppressorOn := q.suppressorOn
        suppressionDepth := min q.suppressionDepth 6
        comfortFillOn := q.comfortFillOn
        padIn := min (max q.padIn 1024) 16383
        padOut := min (max q.padOut 1024) 16383
        alcIn := q.alcIn
        alcOut := q.alcOut
        bandLow := min q.bandLow 32767
        bandHigh := max (min q.bandLow 32767) (min q.bandHigh 32767)
        gmin := min (min (max q.gmin 1024) 16383) (min (max q.gmax 1024) 16383)
        gmax := min (max q.gmax 1024) 16383
        toneBypassOn := q.toneBypassOn
        toneFloor := min (max q.toneFloor 1) 8191
        idleLimit := min q.idleLimit 600 })

/-- R164: the layout byte by byte; and it carries a profile whole, in both directions, where the profile lies in its
ranges and the yes/no bytes are yes or no. -/
def Obligations.ProfileLayoutRoundTrip : Prop :=
  (∀ p : Profile,
    let yes (b : Bool) : Byte := if b then 0x01 else 0x00
    let high (n : Nat) : Byte := BitVec.ofNat 8 (n / 256)
    let low (n : Nat) : Byte := BitVec.ofNat 8 n
    profileBytes p =
      [yes p.searchOn, high p.provisionalOffset, low p.provisionalOffset, low p.windowLimit, low p.stepExponent,
        high p.regularisation, low p.regularisation, high p.referenceFloor, low p.referenceFloor,
        high p.speechFloor, low p.speechFloor, low p.doubleTalkShift, high p.nearHold, low p.nearHold,
        yes p.suppressorOn, yes p.comfortFillOn, high p.padIn, low p.padIn, high p.padOut, low p.padOut,
        yes p.alcIn, yes p.alcOut, high p.bandLow, low p.bandLow, high p.bandHigh, low p.bandHigh,
        high p.gmin, low p.gmin, high p.gmax, low p.gmax, yes p.toneBypassOn, high p.toneFloor, low p.toneFloor,
        high p.idleLimit, low p.idleLimit, low p.suppressionDepth]) ∧
  (∀ p : Profile, p.InRange →
    (profileBytes p).length = 36 ∧ layoutFlagsValid (profileBytes p) = true ∧ layoutProfile (profileBytes p) = p) ∧
  (∀ layout : List Byte, layout.length = 36 → layoutFlagsValid layout = true →
    profileBytes (layoutProfile layout) = layout)

/-- R168 to R170: RULE_READ, RULE_ENABLE and RULE_WRITE, their checks in their order and their effects. -/
def Obligations.RuleCommands : Prop :=
  ∀ (s : State) (number setting profile mode : Byte) (base mask : BitVec 16), s.running = true →
    (8 ≤ number.toNat →
      exec (.ruleRead number) s = .next (respond 0x22 (refusal s .badField)) ∧
      exec (.ruleEnable number setting) s = .next (respond 0x24 (refusal s .badField)) ∧
      exec (.ruleWrite number setting base mask profile mode) s = .next (respond 0x23 (refusal s .badField))) ∧
    (∀ n : RuleNumber, number.toNat = n.val →
      let rule := s.settings.rules.get n
      let put (new : RouteRule) : State :=
        { s with
          settings :=
            { profiles := s.settings.profiles
              rules := Vector.ofFn fun m => if m = n then new else s.settings.rules.get m } }
      exec (.ruleRead number) s = .next (respond 0x22
        { state := s
          status := .ok
          results :=
            [number, if rule.enabled then 0x01 else 0x00, rule.base.extractLsb' 8 8, rule.base.extractLsb' 0 8,
              rule.mask.extractLsb' 8 8, rule.mask.extractLsb' 0 8, BitVec.ofNat 8 rule.profile.val,
              if rule.mode = .cancel then 0x00 else 0x01] }) ∧
      (setting ≠ 0x00 → setting ≠ 0x01 →
        exec (.ruleEnable number setting) s = .next (respond 0x24 (refusal s .badField))) ∧
      (setting = 0x00 ∨ setting = 0x01 →
        exec (.ruleEnable number setting) s = .next (respond 0x24
          { state := put { rule with enabled := decide (setting = 0x01) }, status := .ok, results := [] })) ∧
      (8 ≤ profile.toNat →
        exec (.ruleWrite number setting base mask profile mode) s =
          .next (respond 0x23 (refusal s .badProfile))) ∧
      (∀ p : ProfileNumber, profile.toNat = p.val →
        ((setting ≠ 0x00 ∧ setting ≠ 0x01) ∨ (mode ≠ 0x00 ∧ mode ≠ 0x01) →
          exec (.ruleWrite number setting base mask profile mode) s =
            .next (respond 0x23 (refusal s .badField))) ∧
        ((setting = 0x00 ∨ setting = 0x01) → (mode = 0x00 ∨ mode = 0x01) →
          let written : RouteRule :=
            { enabled := decide (setting = 0x01), base := base, mask := mask, profile := p
              mode := if mode = 0x00 then .cancel else .transparent }
          (rule.enabled = true → written ≠ { rule with enabled := false } →
            exec (.ruleWrite number setting base mask profile mode) s =
              .next (respond 0x23 (refusal s .ruleEnabled))) ∧
          (rule.enabled = false ∨ written = { rule with enabled := false } →
            exec (.ruleWrite number setting base mask profile mode) s = .next (respond 0x23
              { state := put written, status := .ok, results := [] })))))

/-- R172 to R174: STORE and LOAD, their checks in their order and their effects (that STORE answers BUSY, not STORE_WORN,
while the 2000th is in flight, and that the store's profiles and rules keep their old contents while a write is in
flight, are the model's choices, notes/assumptions/19.md and 22.md); and the end of a write in flight by
STORE_COMPLETE or POWER_LOSS. Verified, the store holds the snapshot and its check is valid; otherwise the check is
invalid and the contents are the free value (notes/assumptions/5.md). Without a write in flight STORE_COMPLETE changes
nothing. POWER_LOSS takes the supply (notes/assumptions/6.md). -/
def Obligations.StoreAndLoad : Prop :=
  ∀ s : State, s.running = true →
    (s.store.inFlight ≠ none → exec .store s = .next (respond 0x28 (refusal s .busy))) ∧
    (s.store.inFlight = none → 2000 ≤ s.store.wear → exec .store s = .next (respond 0x28 (refusal s .storeWorn))) ∧
    (s.store.inFlight = none → s.store.wear < 2000 →
      exec .store s = .next (respond 0x28
        { state :=
            { s with
              store :=
                { contents := s.store.contents, valid := false, wear := s.store.wear + 1
                  inFlight := some s.settings } }
          status := .accepted
          results := [] })) ∧
    (s.records ≠ [] → exec .load s = .next (respond 0x29 (refusal s .recordsLive))) ∧
    (s.records = [] → s.store.inFlight ≠ none → exec .load s = .next (respond 0x29 (refusal s .busy))) ∧
    (s.records = [] → s.store.inFlight = none → s.store.valid = true →
      exec .load s = .next (respond 0x29
        { state := { s with settings := s.store.contents }, status := .ok, results := [0x00] })) ∧
    (s.records = [] → s.store.inFlight = none → s.store.valid = false →
      exec .load s = .next (respond 0x29
        { state := { s with settings := factorySettings, summary := s.summary ||| 0x02 }
          status := .ok
          results := [0x01] })) ∧
    (∀ snapshot, s.store.inFlight = some snapshot →
      exec (.storeComplete true) s = .next
        { s with
          store := { contents := snapshot, valid := true, wear := s.store.wear, inFlight := none }
          summary := s.summary ||| 0x04 } ∧
      exec (.storeComplete false) s = .next
        { s with
          store :=
            { contents := Config.tornContents s.freeIndex s.store.contents snapshot
              valid := false, wear := s.store.wear, inFlight := none }
          freeIndex := s.freeIndex + 1
          summary := s.summary ||| 0x08 } ∧
      exec .powerLoss s = .next
        { s with
          powered := false
          store :=
            { contents := Config.tornContents s.freeIndex s.store.contents snapshot
              valid := false, wear := s.store.wear, inFlight := none }
          freeIndex := s.freeIndex + 1 }) ∧
    (s.store.inFlight = none →
      (∀ verified, exec (.storeComplete verified) s = .next s) ∧
      exec .powerLoss s = .next { s with powered := false })

/-! ## Events, tallies, IDENT and RESTART -/

/-- R182, R183: EVENTS, ACK_EVENTS and SET_MASK (the reply to ACK_EVENTS gives the summary at the removal, the model's
choice, notes/assumptions/20.md); and the attention line, driven exactly when the summary and the mask share
a kind, not while the reset pin is held, and not without supply (the last is the model's choice,
notes/assumptions/6.md). -/
def Obligations.EventCommands : Prop :=
  (∀ (s : State) (kinds : Byte), s.running = true →
    exec .events s = .next (respond 0x30 { state := s, status := .ok, results := [s.summary, s.mask] }) ∧
    (∃ remaining : EventSet,
      (∀ k < 8, remaining.getLsbD k = (s.summary.getLsbD k && !kinds.getLsbD k)) ∧
      exec (.ackEvents kinds) s = .next (respond 0x31
        { state := { s with summary := remaining }, status := .ok, results := [remaining] })) ∧
    exec (.setMask kinds) s = .next (respond 0x32
      { state := { s with mask := kinds }, status := .ok, results := [kinds] })) ∧
  (∀ s : State, s.attentionDriven = true ↔
    s.powered = true ∧ s.resetHeld = false ∧ ∃ k < 8, s.summary.getLsbD k = true ∧ s.mask.getLsbD k = true)

/-- R185, R186: TALLY with its checks in their order, and IDENT. -/
def Obligations.TallyAndIdent : Prop :=
  ∀ (s : State) (selector clear : Byte) (id : Identity), s.running = true → s.TableSound →
    (selector ≠ 0x00 ∧ selector ≠ 0x01 ∨ clear ≠ 0x00 ∧ clear ≠ 0x01 →
      exec (.tally selector id clear) s = .next (respond 0x33 (refusal s .badField))) ∧
    (clear = 0x00 ∨ clear = 0x01 →
      (s.recordOf id = none → exec (.tally 0x00 id clear) s = .next (respond 0x33 (refusal s .noRecord))) ∧
      (∀ r, s.recordOf id = some r →
        exec (.tally 0x00 id clear) s = .next (respond 0x33
          { state :=
              if clear = 0x00 then s
              else
                { s with
                  records := s.records.map fun q => if q.identity = id then { r with tallies := {} } else q }
            status := .ok
            results :=
              twoBytes r.tallies.convergedBlocks ++ twoBytes r.tallies.doubleTalkBlocks ++
                twoBytes r.tallies.suppressedBlocks ++ twoBytes r.tallies.clipBlocks ++
                twoBytes r.tallies.searchesCompleted ++ twoBytes r.tallies.pathChanges ++
                twoBytes r.tallies.divergences })) ∧
      exec (.tally 0x01 id clear) s = .next (respond 0x33
        { state := if clear = 0x00 then s else { s with part := {} }
          status := .ok
          results :=
            twoBytes s.part.attachRefusals ++ twoBytes s.part.lineFaults ++ twoBytes s.part.overruns ++
              twoBytes s.part.inconclusiveSearches ++ twoBytes s.part.grants })) ∧
    exec .ident s = .next (respond 0x34
      { state := s
        status := .ok
        results :=
          [0x96, 0x01, s.port.address.setWidth 8] ++ twoBytes s.store.wear ++
            [BitVec.ofNat 8 s.free, BitVec.ofNat 8 s.records.length, BitVec.ofNat 8 s.priorityLane.length,
              BitVec.ofNat 8 s.ordinaryLane.length] })

/-- R187: RESTART. -/
def Obligations.RestartClears : Prop :=
  ∀ s : State, s.running = true →
    exec .restart s = .next (respond 0x3F
      { state :=
          { s with
            records := [], priorityLane := [], ordinaryLane := [], slots := [], free := 144, waiting := []
            refCounts := Vector.replicate 8 0
            part :=
              { attachRefusals := 0, lineFaults := 0, overruns := 0, inconclusiveSearches := 0, grants := 0 }
            summary := 0x01 }
        status := .ok
        results := [] })

/-! ## The control line -/

/-- R176, R180: the reply frame with the status values, which makes the unit busy; a part whose pins gave 15 answers no
frame. -/
def Obligations.ReplyIsFramed : Prop :=
  ∀ (code : Byte) (a : Answer), a.results.length ≤ 198 →
    (a.state.port.address = 15 → respond code a = a.state) ∧
    (a.state.port.address ≠ 15 →
      ∃ check : Byte,
        let status : Byte :=
          match a.status with
          | .ok => 0x00 | .accepted => 0x01 | .clamped => 0x02 | .noRecord => 0x10 | .duplicateCircuit => 0x11
          | .slotTaken => 0x12 | .tableFull => 0x13 | .badPosition => 0x14 | .badProfile => 0x15 | .badField => 0x16
          | .wrongState => 0x17 | .recordLapsed => 0x18 | .profileInUse => 0x19 | .ruleEnabled => 0x1A
          | .recordsLive => 0x1B | .busy => 0x1C | .storeWorn => 0x1D | .lineOccupied => 0x1E
          | .unknownCommand => 0x1F | .badLength => 0x20
        let body := [0x80#8 ||| a.state.port.address.setWidth 8, BitVec.ofNat 8 (a.results.length + 2), code,
          status] ++ a.results ++ [check]
        (body.map (·.toNat)).sum % 256 = 0 ∧
        respond code a = { a.state with port := { a.state.port with reply := some (0xA5#8 :: body) } })

/-- R176, R177, R180: a command row and its command frame are one: where the port hunts and is not busy, hearing the frame
that carries a command to this unit leaves exactly what the command's own row leaves. -/
def Obligations.CommandFrameEqualsRow : Prop :=
  ∀ (s : State) (i : Instr) (code check : Byte) (parameters : List Byte),
    s.running = true → s.port.hearing = .hunting → s.port.reply = none → s.port.address ≠ 15 →
    WellFormed i = true → encodeCommand i = some (code, parameters) →
    let body := [s.port.address.setWidth 8, BitVec.ofNat 8 (parameters.length + 1), code] ++ parameters ++ [check]
    ((body.map (·.toNat)).sum % 256 = 0 → exec (.commandFrameReceived (0xA5 :: body)) s = exec i s)

/-- R176, R179: a broadcast is carried out without a reply, for the eight codes it may have, and otherwise discarded. -/
def Obligations.BroadcastIsSilent : Prop :=
  ∀ (s : State) (i : Instr) (code check : Byte) (parameters : List Byte),
    s.running = true → s.port.hearing = .hunting → s.port.reply = none →
    WellFormed i = true → encodeCommand i = some (code, parameters) →
    let body := [0x0F, BitVec.ofNat 8 (parameters.length + 1), code] ++ parameters ++ [check]
    ((body.map (·.toNat)).sum % 256 = 0 →
      ∃ t, exec i s = .next t ∧
        exec (.commandFrameReceived (0xA5 :: body)) s = .next
          (if code ∈ [0x21#8, 0x23#8, 0x24#8, 0x28#8, 0x29#8, 0x3F#8, 0x31#8, 0x32#8] then { t with port := s.port }
          else s))

/-- R177, R180: the frames that are no good, and the commands that are none. A bad length or a bad check is a line fault;
a code that is not in R180's list and a parameter count other than the list's are answered, and of a broadcast discarded
(R179). -/
def Obligations.FramesAreJudged : Prop :=
  ∀ (s : State) (head length check : Byte) (body : List Byte),
    s.running = true → s.port.hearing = .hunting → s.port.reply = none →
    let fault : State :=
      { s with
        part := { s.part with lineFaults := min 65535 (s.part.lineFaults + 1) }
        summary := s.summary ||| 0x80 }
    let counts : List (Byte × Nat) :=
      [(0x01, 5), (0x02, 2), (0x03, 10), (0x04, 3), (0x05, 2), (0x06, 3), (0x10, 2), (0x11, 3), (0x12, 1), (0x13, 4),
        (0x14, 3), (0x20, 1), (0x21, 37), (0x22, 1), (0x23, 8), (0x24, 2), (0x28, 0), (0x29, 0), (0x30, 0), (0x31, 1),
        (0x32, 1), (0x33, 4), (0x34, 0), (0x3F, 0)]
    let sum := (([head, length] ++ body ++ [check]).map (·.toNat)).sum % 256
    (length.toNat = 0 ∨ 200 < length.toNat →
      exec (.commandFrameReceived [0xA5, head, length]) s = .next fault) ∧
    (1 ≤ length.toNat → length.toNat ≤ 200 → body.length = length.toNat →
      let frame := [0xA5#8, head, length] ++ body ++ [check]
      (sum ≠ 0 → exec (.commandFrameReceived frame) s = .next fault) ∧
      (sum = 0 → 16 ≤ head.toNat → exec (.commandFrameReceived frame) s = .next s) ∧
      (sum = 0 → head.toNat < 15 → head.toNat ≠ s.port.address.toNat →
        exec (.commandFrameReceived frame) s = .next s) ∧
      (sum = 0 → head.toNat = 15 →
        ∀ code parameters, body = code :: parameters →
          (∀ entry ∈ counts, entry.1 = code → parameters.length ≠ entry.2) →
          exec (.commandFrameReceived frame) s = .next s) ∧
      (sum = 0 → head.toNat < 15 → head.toNat = s.port.address.toNat →
        ∀ code parameters, body = code :: parameters →
          (code ∉ counts.map (·.1) →
            exec (.commandFrameReceived frame) s = .next (respond code (refusal s .unknownCommand))) ∧
          (∀ entry ∈ counts, entry.1 = code → parameters.length ≠ entry.2 →
            exec (.commandFrameReceived frame) s = .next (respond code (refusal s .badLength)))))

/-- R177, R178: the bytes heard, in one row or in several, and a gap, or a character fault, after them. A hunting port
passes over every byte but A5h; an A5h begins a frame, to be assembled, or while the unit is busy counted as an overrun
and discarded, and nothing else follows until the frame ends; a frame heard in several rows is assembled as one. Within
a frame it is a line fault; while a frame is discarded it ends it without count; while the port hunts it is passed
over. The byte that ended a gap is then examined as a possible sync byte. That the gap is noticed at the byte after it,
and that an overrun is counted at the sync byte, are the model's reading (notes/assumptions/8.md). -/
def Obligations.GapsAndCharacterFaults : Prop :=
  ∀ (s : State) (heard : List Byte) (next : Byte), s.running = true →
    ∃ u v, exec (.commandFrameReceived heard) s = .next u ∧ exec (.characterFault heard) s = .next v ∧
      (s.port.hearing = .hunting → (∀ b ∈ heard, b ≠ 0xA5) → u = s) ∧
      (s.port.hearing = .hunting → heard.head? = some 0xA5 →
        let length := (heard.getD 2 0).toNat
        heard.length < 3 ∨ 1 ≤ length ∧ length ≤ 200 ∧ heard.length < length + 4 →
        u = if s.port.reply = none then { s with port := { s.port with hearing := .assembling heard } }
          else
            { s with
              port := { s.port with hearing := .discarding heard }
              part := { s.part with overruns := min 65535 (s.part.overruns + 1) } }) ∧
      (∀ more, exec (.commandFrameReceived (heard ++ more)) s = exec (.commandFrameReceived more) u) ∧
      (u.port.hearing = .hunting → v = u) ∧
      (∀ bytes, u.port.hearing = .discarding bytes → v = { u with port := { u.port with hearing := .hunting } }) ∧
      (∀ bytes, u.port.hearing = .assembling bytes →
        v = { u with
          port := { u.port with hearing := .hunting }
          part := { u.part with lineFaults := min 65535 (u.part.lineFaults + 1) }
          summary := u.summary ||| 0x80 }) ∧
      exec (.interByteGap heard next) s = .next
        (if next ≠ 0xA5 then v
        else if v.port.reply = none then { v with port := { v.port with hearing := .assembling [0xA5] } }
        else
          { v with
            port := { v.port with hearing := .discarding [0xA5] }
            part := { v.part with overruns := min 65535 (v.part.overruns + 1) } })

/-- R178: a frame that arrives while the unit is busy is lost and counted once, whatever it holds; REPLY_SENT ends the
busy time. OVERRUN is the hearing of such a frame from its sync byte on; OVERRUN of a unit that is not busy does
nothing (the model's choice, notes/assumptions/8.md). -/
def Obligations.OverrunAndReplySent : Prop :=
  ∀ (s : State) (head length check : Byte) (body : List Byte), s.running = true →
    exec .replySent s = .next { s with port := { s.port with reply := none } } ∧
    (s.port.reply = none → ∀ rest, exec (.overrun rest) s = .next s) ∧
    (s.port.reply ≠ none → ∀ rest, exec (.overrun rest) s = exec (.commandFrameReceived (0xA5 :: rest)) s) ∧
    (s.port.reply ≠ none → s.port.hearing = .hunting →
      let counted : State := { s with part := { s.part with overruns := min 65535 (s.part.overruns + 1) } }
      (length.toNat = 0 ∨ 200 < length.toNat → exec (.overrun [head, length]) s = .next counted) ∧
      (1 ≤ length.toNat → length.toNat ≤ 200 → body.length = length.toNat →
        exec (.overrun ([head, length] ++ body ++ [check])) s = .next counted))

/-- R10, R180: decoding a command body gives back the command it encodes, and only that; and each command's code and
parameter bytes. -/
def Obligations.CommandEncodingRoundTrip : Prop :=
  (∀ (i : Instr) (code : Byte) (parameters : List Byte),
    WellFormed i = true → encodeCommand i = some (code, parameters) →
    decodeCommand code parameters = .command i ∧ parameterCount code.toNat = some parameters.length) ∧
  (∀ (code : Byte) (parameters : List Byte) (i : Instr),
    decodeCommand code parameters = .command i → encodeCommand i = some (code, parameters) ∧ WellFormed i = true) ∧
  (∀ (id base mask padIn padOut : BitVec 16) (a b c d : Byte) (layout : List Byte),
    encodeCommand (.attach id a b c) = some (0x01, wordField id ++ [a, b, c]) ∧
    encodeCommand (.detach id) = some (0x02, wordField id) ∧
    encodeCommand (.modify id a b c padIn padOut d) =
      some (0x03, wordField id ++ [a, b, c] ++ wordField padIn ++ wordField padOut ++ [d]) ∧
    encodeCommand (.rebind id a) = some (0x04, wordField id ++ [a]) ∧
    encodeCommand (.moveLine a b) = some (0x05, [a, b]) ∧
    encodeCommand (.research id a) = some (0x06, wordField id ++ [a]) ∧
    encodeCommand (.look id) = some (0x10, wordField id) ∧
    encodeCommand (.lookWindow id a) = some (0x11, wordField id ++ [a]) ∧
    encodeCommand (.find a) = some (0x12, [a]) ∧
    encodeCommand (.list a b id) = some (0x13, [a, b] ++ wordField id) ∧
    encodeCommand (.ackAlarms id a) = some (0x14, wordField id ++ [a]) ∧
    encodeCommand (.profileRead a) = some (0x20, [a]) ∧
    encodeCommand (.profileWrite a layout) = some (0x21, a :: layout) ∧
    encodeCommand (.ruleRead a) = some (0x22, [a]) ∧
    encodeCommand (.ruleWrite a b base mask c d) =
      some (0x23, [a, b] ++ wordField base ++ wordField mask ++ [c, d]) ∧
    encodeCommand (.ruleEnable a b) = some (0x24, [a, b]) ∧
    encodeCommand .store = some (0x28, []) ∧
    encodeCommand .load = some (0x29, []) ∧
    encodeCommand .events = some (0x30, []) ∧
    encodeCommand (.ackEvents a) = some (0x31, [a]) ∧
    encodeCommand (.setMask a) = some (0x32, [a]) ∧
    encodeCommand (.tally a id b) = some (0x33, [a] ++ wordField id ++ [b]) ∧
    encodeCommand .ident = some (0x34, []) ∧
    encodeCommand .restart = some (0x3F, []))

/-! ## What every step keeps -/

/-- R5, R32, R75, R162, R167, R171, R172, R184: every step keeps the settings in range, the store's conditions, the
tallies 16-bit counts, the talk counts' sum and the highways' width, each from itself alone. -/
def Obligations.StepKeepsSettingsAndTallies : Prop :=
  ∀ s t : State, step s = .next t →
    (s.SettingsSound → t.SettingsSound) ∧ (s.StoreSound → t.StoreSound) ∧
    (s.TalliesSound → t.TalliesSound) ∧ (s.TalkCountsSound → t.TalkCountsSound) ∧
    (s.HighwaysSound → t.HighwaysSound)

/-- R1, R163: every step keeps the table's conditions, and the reference counts with them. -/
def Obligations.StepKeepsTableAndReferences : Prop :=
  ∀ s t : State, step s = .next t → s.TableSound →
    t.TableSound ∧ (s.ReferencesSound → t.ReferencesSound)

/-- R4, R6, R95, R97: every step keeps the search unit's conditions and those that a record's state puts on its
fields. -/
def Obligations.StepKeepsSearchUnit : Prop :=
  ∀ s t : State, step s = .next t → s.TableSound → s.SearchSound → s.StatesSound →
    t.SearchSound ∧ t.StatesSound

/-- R118, R119: every step keeps the 144 windows and the waiting list's conditions. -/
def Obligations.StepKeepsWindowPool : Prop :=
  ∀ s t : State, step s = .next t → s.TableSound → s.SearchSound → s.StatesSound →
    (s.PoolSound → t.PoolSound) ∧ (s.WaitingSound → t.WaitingSound)

/-- R4, R42, R49, R96, R103, R110, R141: every step keeps every record's windows, history, gains and pad overrides sound
under the profile it names, and the slots with them. -/
def Obligations.StepKeepsModels : Prop :=
  ∀ s t : State, step s = .next t → s.SettingsSound → s.TableSound → s.ReferencesSound → s.SearchSound →
    s.StatesSound → (∀ r ∈ s.records, r.ModelSound (s.profileOf r) ∧ r.LevelsSound (s.profileOf r)) →
    (∀ sl ∈ s.slots, sl.Sound) →
    (∀ r ∈ t.records, r.ModelSound (t.profileOf r) ∧ r.LevelsSound (t.profileOf r)) ∧ (∀ sl ∈ t.slots, sl.Sound)

/-- R3, R84, R85, R132, R135, R152, R154, R156: every step keeps every record's counts in range. -/
def Obligations.StepKeepsCounts : Prop :=
  ∀ s t : State, step s = .next t → s.SettingsSound → s.TableSound → s.StatesSound → s.CountsSound →
    t.CountsSound
end

