-- ==== Sys2Proof/Laws/State.lean ====
section
/-! SUPPORT. One lemma per field of `State` per elementary update, each true by unfolding the update. -/

namespace Sys2Proof.Machine

variable (s : State)

/-! ### update -/

@[simp] theorem State.update_powered (id : Identity) (f : Record → Record) : (s.update id f).powered = s.powered := rfl
@[simp] theorem State.update_resetHeld (id : Identity) (f : Record → Record) : (s.update id f).resetHeld = s.resetHeld := rfl
@[simp] theorem State.update_phase (id : Identity) (f : Record → Record) : (s.update id f).phase = s.phase := rfl
@[simp] theorem State.update_blockEndDue (id : Identity) (f : Record → Record) : (s.update id f).blockEndDue = s.blockEndDue := rfl
@[simp] theorem State.update_trunkOut (id : Identity) (f : Record → Record) : (s.update id f).trunkOut = s.trunkOut := rfl
@[simp] theorem State.update_exchangeOut (id : Identity) (f : Record → Record) : (s.update id f).exchangeOut = s.exchangeOut := rfl
@[simp] theorem State.update_nextTrunkOut (id : Identity) (f : Record → Record) : (s.update id f).nextTrunkOut = s.nextTrunkOut := rfl
@[simp] theorem State.update_nextExchangeOut (id : Identity) (f : Record → Record) : (s.update id f).nextExchangeOut = s.nextExchangeOut := rfl
@[simp] theorem State.update_records (id : Identity) (f : Record → Record) : (s.update id f).records = s.records.map fun r => if r.identity = id then f r else r := rfl
@[simp] theorem State.update_priorityLane (id : Identity) (f : Record → Record) : (s.update id f).priorityLane = s.priorityLane := rfl
@[simp] theorem State.update_ordinaryLane (id : Identity) (f : Record → Record) : (s.update id f).ordinaryLane = s.ordinaryLane := rfl
@[simp] theorem State.update_slots (id : Identity) (f : Record → Record) : (s.update id f).slots = s.slots := rfl
@[simp] theorem State.update_free (id : Identity) (f : Record → Record) : (s.update id f).free = s.free := rfl
@[simp] theorem State.update_waiting (id : Identity) (f : Record → Record) : (s.update id f).waiting = s.waiting := rfl
@[simp] theorem State.update_settings (id : Identity) (f : Record → Record) : (s.update id f).settings = s.settings := rfl
@[simp] theorem State.update_refCounts (id : Identity) (f : Record → Record) : (s.update id f).refCounts = s.refCounts := rfl
@[simp] theorem State.update_store (id : Identity) (f : Record → Record) : (s.update id f).store = s.store := rfl
@[simp] theorem State.update_summary (id : Identity) (f : Record → Record) : (s.update id f).summary = s.summary := rfl
@[simp] theorem State.update_mask (id : Identity) (f : Record → Record) : (s.update id f).mask = s.mask := rfl
@[simp] theorem State.update_part (id : Identity) (f : Record → Record) : (s.update id f).part = s.part := rfl
@[simp] theorem State.update_port (id : Identity) (f : Record → Record) : (s.update id f).port = s.port := rfl
@[simp] theorem State.update_freeIndex (id : Identity) (f : Record → Record) : (s.update id f).freeIndex = s.freeIndex := rfl
@[simp] theorem State.update_pending (id : Identity) (f : Record → Record) : (s.update id f).pending = s.pending := rfl

/-! ### raise -/

@[simp] theorem State.raise_powered (k : EventKind) : (s.raise k).powered = s.powered := rfl
@[simp] theorem State.raise_resetHeld (k : EventKind) : (s.raise k).resetHeld = s.resetHeld := rfl
@[simp] theorem State.raise_phase (k : EventKind) : (s.raise k).phase = s.phase := rfl
@[simp] theorem State.raise_blockEndDue (k : EventKind) : (s.raise k).blockEndDue = s.blockEndDue := rfl
@[simp] theorem State.raise_trunkOut (k : EventKind) : (s.raise k).trunkOut = s.trunkOut := rfl
@[simp] theorem State.raise_exchangeOut (k : EventKind) : (s.raise k).exchangeOut = s.exchangeOut := rfl
@[simp] theorem State.raise_nextTrunkOut (k : EventKind) : (s.raise k).nextTrunkOut = s.nextTrunkOut := rfl
@[simp] theorem State.raise_nextExchangeOut (k : EventKind) : (s.raise k).nextExchangeOut = s.nextExchangeOut := rfl
@[simp] theorem State.raise_records (k : EventKind) : (s.raise k).records = s.records := rfl
@[simp] theorem State.raise_priorityLane (k : EventKind) : (s.raise k).priorityLane = s.priorityLane := rfl
@[simp] theorem State.raise_ordinaryLane (k : EventKind) : (s.raise k).ordinaryLane = s.ordinaryLane := rfl
@[simp] theorem State.raise_slots (k : EventKind) : (s.raise k).slots = s.slots := rfl
@[simp] theorem State.raise_free (k : EventKind) : (s.raise k).free = s.free := rfl
@[simp] theorem State.raise_waiting (k : EventKind) : (s.raise k).waiting = s.waiting := rfl
@[simp] theorem State.raise_settings (k : EventKind) : (s.raise k).settings = s.settings := rfl
@[simp] theorem State.raise_refCounts (k : EventKind) : (s.raise k).refCounts = s.refCounts := rfl
@[simp] theorem State.raise_store (k : EventKind) : (s.raise k).store = s.store := rfl
@[simp] theorem State.raise_summary (k : EventKind) : (s.raise k).summary = s.summary ||| k.flag := rfl
@[simp] theorem State.raise_mask (k : EventKind) : (s.raise k).mask = s.mask := rfl
@[simp] theorem State.raise_part (k : EventKind) : (s.raise k).part = s.part := rfl
@[simp] theorem State.raise_port (k : EventKind) : (s.raise k).port = s.port := rfl
@[simp] theorem State.raise_freeIndex (k : EventKind) : (s.raise k).freeIndex = s.freeIndex := rfl
@[simp] theorem State.raise_pending (k : EventKind) : (s.raise k).pending = s.pending := rfl

/-! ### gainReference -/

@[simp] theorem State.gainReference_powered (n : ProfileNumber) : (s.gainReference n).powered = s.powered := rfl
@[simp] theorem State.gainReference_resetHeld (n : ProfileNumber) : (s.gainReference n).resetHeld = s.resetHeld := rfl
@[simp] theorem State.gainReference_phase (n : ProfileNumber) : (s.gainReference n).phase = s.phase := rfl
@[simp] theorem State.gainReference_blockEndDue (n : ProfileNumber) : (s.gainReference n).blockEndDue = s.blockEndDue := rfl
@[simp] theorem State.gainReference_trunkOut (n : ProfileNumber) : (s.gainReference n).trunkOut = s.trunkOut := rfl
@[simp] theorem State.gainReference_exchangeOut (n : ProfileNumber) : (s.gainReference n).exchangeOut = s.exchangeOut := rfl
@[simp] theorem State.gainReference_nextTrunkOut (n : ProfileNumber) : (s.gainReference n).nextTrunkOut = s.nextTrunkOut := rfl
@[simp] theorem State.gainReference_nextExchangeOut (n : ProfileNumber) : (s.gainReference n).nextExchangeOut = s.nextExchangeOut := rfl
@[simp] theorem State.gainReference_records (n : ProfileNumber) : (s.gainReference n).records = s.records := rfl
@[simp] theorem State.gainReference_priorityLane (n : ProfileNumber) : (s.gainReference n).priorityLane = s.priorityLane := rfl
@[simp] theorem State.gainReference_ordinaryLane (n : ProfileNumber) : (s.gainReference n).ordinaryLane = s.ordinaryLane := rfl
@[simp] theorem State.gainReference_slots (n : ProfileNumber) : (s.gainReference n).slots = s.slots := rfl
@[simp] theorem State.gainReference_free (n : ProfileNumber) : (s.gainReference n).free = s.free := rfl
@[simp] theorem State.gainReference_waiting (n : ProfileNumber) : (s.gainReference n).waiting = s.waiting := rfl
@[simp] theorem State.gainReference_settings (n : ProfileNumber) : (s.gainReference n).settings = s.settings := rfl
@[simp] theorem State.gainReference_store (n : ProfileNumber) : (s.gainReference n).store = s.store := rfl
@[simp] theorem State.gainReference_summary (n : ProfileNumber) : (s.gainReference n).summary = s.summary := rfl
@[simp] theorem State.gainReference_mask (n : ProfileNumber) : (s.gainReference n).mask = s.mask := rfl
@[simp] theorem State.gainReference_part (n : ProfileNumber) : (s.gainReference n).part = s.part := rfl
@[simp] theorem State.gainReference_port (n : ProfileNumber) : (s.gainReference n).port = s.port := rfl
@[simp] theorem State.gainReference_freeIndex (n : ProfileNumber) : (s.gainReference n).freeIndex = s.freeIndex := rfl
@[simp] theorem State.gainReference_pending (n : ProfileNumber) : (s.gainReference n).pending = s.pending := rfl

/-! ### loseReference -/

@[simp] theorem State.loseReference_powered (n : ProfileNumber) : (s.loseReference n).powered = s.powered := rfl
@[simp] theorem State.loseReference_resetHeld (n : ProfileNumber) : (s.loseReference n).resetHeld = s.resetHeld := rfl
@[simp] theorem State.loseReference_phase (n : ProfileNumber) : (s.loseReference n).phase = s.phase := rfl
@[simp] theorem State.loseReference_blockEndDue (n : ProfileNumber) : (s.loseReference n).blockEndDue = s.blockEndDue := rfl
@[simp] theorem State.loseReference_trunkOut (n : ProfileNumber) : (s.loseReference n).trunkOut = s.trunkOut := rfl
@[simp] theorem State.loseReference_exchangeOut (n : ProfileNumber) : (s.loseReference n).exchangeOut = s.exchangeOut := rfl
@[simp] theorem State.loseReference_nextTrunkOut (n : ProfileNumber) : (s.loseReference n).nextTrunkOut = s.nextTrunkOut := rfl
@[simp] theorem State.loseReference_nextExchangeOut (n : ProfileNumber) : (s.loseReference n).nextExchangeOut = s.nextExchangeOut := rfl
@[simp] theorem State.loseReference_records (n : ProfileNumber) : (s.loseReference n).records = s.records := rfl
@[simp] theorem State.loseReference_priorityLane (n : ProfileNumber) : (s.loseReference n).priorityLane = s.priorityLane := rfl
@[simp] theorem State.loseReference_ordinaryLane (n : ProfileNumber) : (s.loseReference n).ordinaryLane = s.ordinaryLane := rfl
@[simp] theorem State.loseReference_slots (n : ProfileNumber) : (s.loseReference n).slots = s.slots := rfl
@[simp] theorem State.loseReference_free (n : ProfileNumber) : (s.loseReference n).free = s.free := rfl
@[simp] theorem State.loseReference_waiting (n : ProfileNumber) : (s.loseReference n).waiting = s.waiting := rfl
@[simp] theorem State.loseReference_settings (n : ProfileNumber) : (s.loseReference n).settings = s.settings := rfl
@[simp] theorem State.loseReference_store (n : ProfileNumber) : (s.loseReference n).store = s.store := rfl
@[simp] theorem State.loseReference_summary (n : ProfileNumber) : (s.loseReference n).summary = s.summary := rfl
@[simp] theorem State.loseReference_mask (n : ProfileNumber) : (s.loseReference n).mask = s.mask := rfl
@[simp] theorem State.loseReference_part (n : ProfileNumber) : (s.loseReference n).part = s.part := rfl
@[simp] theorem State.loseReference_port (n : ProfileNumber) : (s.loseReference n).port = s.port := rfl
@[simp] theorem State.loseReference_freeIndex (n : ProfileNumber) : (s.loseReference n).freeIndex = s.freeIndex := rfl
@[simp] theorem State.loseReference_pending (n : ProfileNumber) : (s.loseReference n).pending = s.pending := rfl

/-! ### stopWaiting -/

@[simp] theorem State.stopWaiting_powered (id : Identity) : (s.stopWaiting id).powered = s.powered := rfl
@[simp] theorem State.stopWaiting_resetHeld (id : Identity) : (s.stopWaiting id).resetHeld = s.resetHeld := rfl
@[simp] theorem State.stopWaiting_phase (id : Identity) : (s.stopWaiting id).phase = s.phase := rfl
@[simp] theorem State.stopWaiting_blockEndDue (id : Identity) : (s.stopWaiting id).blockEndDue = s.blockEndDue := rfl
@[simp] theorem State.stopWaiting_trunkOut (id : Identity) : (s.stopWaiting id).trunkOut = s.trunkOut := rfl
@[simp] theorem State.stopWaiting_exchangeOut (id : Identity) : (s.stopWaiting id).exchangeOut = s.exchangeOut := rfl
@[simp] theorem State.stopWaiting_nextTrunkOut (id : Identity) : (s.stopWaiting id).nextTrunkOut = s.nextTrunkOut := rfl
@[simp] theorem State.stopWaiting_nextExchangeOut (id : Identity) : (s.stopWaiting id).nextExchangeOut = s.nextExchangeOut := rfl
@[simp] theorem State.stopWaiting_records (id : Identity) : (s.stopWaiting id).records = s.records := rfl
@[simp] theorem State.stopWaiting_priorityLane (id : Identity) : (s.stopWaiting id).priorityLane = s.priorityLane := rfl
@[simp] theorem State.stopWaiting_ordinaryLane (id : Identity) : (s.stopWaiting id).ordinaryLane = s.ordinaryLane := rfl
@[simp] theorem State.stopWaiting_slots (id : Identity) : (s.stopWaiting id).slots = s.slots := rfl
@[simp] theorem State.stopWaiting_free (id : Identity) : (s.stopWaiting id).free = s.free := rfl
@[simp] theorem State.stopWaiting_waiting (id : Identity) : (s.stopWaiting id).waiting = s.waiting.filter (· != id) := rfl
@[simp] theorem State.stopWaiting_settings (id : Identity) : (s.stopWaiting id).settings = s.settings := rfl
@[simp] theorem State.stopWaiting_refCounts (id : Identity) : (s.stopWaiting id).refCounts = s.refCounts := rfl
@[simp] theorem State.stopWaiting_store (id : Identity) : (s.stopWaiting id).store = s.store := rfl
@[simp] theorem State.stopWaiting_summary (id : Identity) : (s.stopWaiting id).summary = s.summary := rfl
@[simp] theorem State.stopWaiting_mask (id : Identity) : (s.stopWaiting id).mask = s.mask := rfl
@[simp] theorem State.stopWaiting_part (id : Identity) : (s.stopWaiting id).part = s.part := rfl
@[simp] theorem State.stopWaiting_port (id : Identity) : (s.stopWaiting id).port = s.port := rfl
@[simp] theorem State.stopWaiting_freeIndex (id : Identity) : (s.stopWaiting id).freeIndex = s.freeIndex := rfl
@[simp] theorem State.stopWaiting_pending (id : Identity) : (s.stopWaiting id).pending = s.pending := rfl

/-! ### leaveLanes -/

@[simp] theorem State.leaveLanes_powered (id : Identity) : (s.leaveLanes id).powered = s.powered := rfl
@[simp] theorem State.leaveLanes_resetHeld (id : Identity) : (s.leaveLanes id).resetHeld = s.resetHeld := rfl
@[simp] theorem State.leaveLanes_phase (id : Identity) : (s.leaveLanes id).phase = s.phase := rfl
@[simp] theorem State.leaveLanes_blockEndDue (id : Identity) : (s.leaveLanes id).blockEndDue = s.blockEndDue := rfl
@[simp] theorem State.leaveLanes_trunkOut (id : Identity) : (s.leaveLanes id).trunkOut = s.trunkOut := rfl
@[simp] theorem State.leaveLanes_exchangeOut (id : Identity) : (s.leaveLanes id).exchangeOut = s.exchangeOut := rfl
@[simp] theorem State.leaveLanes_nextTrunkOut (id : Identity) : (s.leaveLanes id).nextTrunkOut = s.nextTrunkOut := rfl
@[simp] theorem State.leaveLanes_nextExchangeOut (id : Identity) : (s.leaveLanes id).nextExchangeOut = s.nextExchangeOut := rfl
@[simp] theorem State.leaveLanes_records (id : Identity) : (s.leaveLanes id).records = s.records := rfl
@[simp] theorem State.leaveLanes_priorityLane (id : Identity) : (s.leaveLanes id).priorityLane = s.priorityLane.filter (· != id) := rfl
@[simp] theorem State.leaveLanes_ordinaryLane (id : Identity) : (s.leaveLanes id).ordinaryLane = s.ordinaryLane.filter (· != id) := rfl
@[simp] theorem State.leaveLanes_slots (id : Identity) : (s.leaveLanes id).slots = s.slots := rfl
@[simp] theorem State.leaveLanes_free (id : Identity) : (s.leaveLanes id).free = s.free := rfl
@[simp] theorem State.leaveLanes_waiting (id : Identity) : (s.leaveLanes id).waiting = s.waiting := rfl
@[simp] theorem State.leaveLanes_settings (id : Identity) : (s.leaveLanes id).settings = s.settings := rfl
@[simp] theorem State.leaveLanes_refCounts (id : Identity) : (s.leaveLanes id).refCounts = s.refCounts := rfl
@[simp] theorem State.leaveLanes_store (id : Identity) : (s.leaveLanes id).store = s.store := rfl
@[simp] theorem State.leaveLanes_summary (id : Identity) : (s.leaveLanes id).summary = s.summary := rfl
@[simp] theorem State.leaveLanes_mask (id : Identity) : (s.leaveLanes id).mask = s.mask := rfl
@[simp] theorem State.leaveLanes_part (id : Identity) : (s.leaveLanes id).part = s.part := rfl
@[simp] theorem State.leaveLanes_port (id : Identity) : (s.leaveLanes id).port = s.port := rfl
@[simp] theorem State.leaveLanes_freeIndex (id : Identity) : (s.leaveLanes id).freeIndex = s.freeIndex := rfl
@[simp] theorem State.leaveLanes_pending (id : Identity) : (s.leaveLanes id).pending = s.pending := rfl

/-! ### freeSlot -/

@[simp] theorem State.freeSlot_powered (id : Identity) : (s.freeSlot id).powered = s.powered := rfl
@[simp] theorem State.freeSlot_resetHeld (id : Identity) : (s.freeSlot id).resetHeld = s.resetHeld := rfl
@[simp] theorem State.freeSlot_phase (id : Identity) : (s.freeSlot id).phase = s.phase := rfl
@[simp] theorem State.freeSlot_blockEndDue (id : Identity) : (s.freeSlot id).blockEndDue = s.blockEndDue := rfl
@[simp] theorem State.freeSlot_trunkOut (id : Identity) : (s.freeSlot id).trunkOut = s.trunkOut := rfl
@[simp] theorem State.freeSlot_exchangeOut (id : Identity) : (s.freeSlot id).exchangeOut = s.exchangeOut := rfl
@[simp] theorem State.freeSlot_nextTrunkOut (id : Identity) : (s.freeSlot id).nextTrunkOut = s.nextTrunkOut := rfl
@[simp] theorem State.freeSlot_nextExchangeOut (id : Identity) : (s.freeSlot id).nextExchangeOut = s.nextExchangeOut := rfl
@[simp] theorem State.freeSlot_records (id : Identity) : (s.freeSlot id).records = s.records := rfl
@[simp] theorem State.freeSlot_priorityLane (id : Identity) : (s.freeSlot id).priorityLane = s.priorityLane := rfl
@[simp] theorem State.freeSlot_ordinaryLane (id : Identity) : (s.freeSlot id).ordinaryLane = s.ordinaryLane := rfl
@[simp] theorem State.freeSlot_slots (id : Identity) : (s.freeSlot id).slots = s.slots.filter (·.identity != id) := rfl
@[simp] theorem State.freeSlot_free (id : Identity) : (s.freeSlot id).free = s.free := rfl
@[simp] theorem State.freeSlot_waiting (id : Identity) : (s.freeSlot id).waiting = s.waiting := rfl
@[simp] theorem State.freeSlot_settings (id : Identity) : (s.freeSlot id).settings = s.settings := rfl
@[simp] theorem State.freeSlot_refCounts (id : Identity) : (s.freeSlot id).refCounts = s.refCounts := rfl
@[simp] theorem State.freeSlot_store (id : Identity) : (s.freeSlot id).store = s.store := rfl
@[simp] theorem State.freeSlot_summary (id : Identity) : (s.freeSlot id).summary = s.summary := rfl
@[simp] theorem State.freeSlot_mask (id : Identity) : (s.freeSlot id).mask = s.mask := rfl
@[simp] theorem State.freeSlot_part (id : Identity) : (s.freeSlot id).part = s.part := rfl
@[simp] theorem State.freeSlot_port (id : Identity) : (s.freeSlot id).port = s.port := rfl
@[simp] theorem State.freeSlot_freeIndex (id : Identity) : (s.freeSlot id).freeIndex = s.freeIndex := rfl
@[simp] theorem State.freeSlot_pending (id : Identity) : (s.freeSlot id).pending = s.pending := rfl

/-! ### restartSearch -/

@[simp] theorem State.restartSearch_powered (id : Identity) : (s.restartSearch id).powered = s.powered := rfl
@[simp] theorem State.restartSearch_resetHeld (id : Identity) : (s.restartSearch id).resetHeld = s.resetHeld := rfl
@[simp] theorem State.restartSearch_phase (id : Identity) : (s.restartSearch id).phase = s.phase := rfl
@[simp] theorem State.restartSearch_blockEndDue (id : Identity) : (s.restartSearch id).blockEndDue = s.blockEndDue := rfl
@[simp] theorem State.restartSearch_trunkOut (id : Identity) : (s.restartSearch id).trunkOut = s.trunkOut := rfl
@[simp] theorem State.restartSearch_exchangeOut (id : Identity) : (s.restartSearch id).exchangeOut = s.exchangeOut := rfl
@[simp] theorem State.restartSearch_nextTrunkOut (id : Identity) : (s.restartSearch id).nextTrunkOut = s.nextTrunkOut := rfl
@[simp] theorem State.restartSearch_nextExchangeOut (id : Identity) : (s.restartSearch id).nextExchangeOut = s.nextExchangeOut := rfl
@[simp] theorem State.restartSearch_records (id : Identity) : (s.restartSearch id).records = s.records := rfl
@[simp] theorem State.restartSearch_priorityLane (id : Identity) : (s.restartSearch id).priorityLane = s.priorityLane := rfl
@[simp] theorem State.restartSearch_ordinaryLane (id : Identity) : (s.restartSearch id).ordinaryLane = s.ordinaryLane := rfl
@[simp] theorem State.restartSearch_free (id : Identity) : (s.restartSearch id).free = s.free := rfl
@[simp] theorem State.restartSearch_waiting (id : Identity) : (s.restartSearch id).waiting = s.waiting := rfl
@[simp] theorem State.restartSearch_settings (id : Identity) : (s.restartSearch id).settings = s.settings := rfl
@[simp] theorem State.restartSearch_refCounts (id : Identity) : (s.restartSearch id).refCounts = s.refCounts := rfl
@[simp] theorem State.restartSearch_store (id : Identity) : (s.restartSearch id).store = s.store := rfl
@[simp] theorem State.restartSearch_summary (id : Identity) : (s.restartSearch id).summary = s.summary := rfl
@[simp] theorem State.restartSearch_mask (id : Identity) : (s.restartSearch id).mask = s.mask := rfl
@[simp] theorem State.restartSearch_part (id : Identity) : (s.restartSearch id).part = s.part := rfl
@[simp] theorem State.restartSearch_port (id : Identity) : (s.restartSearch id).port = s.port := rfl
@[simp] theorem State.restartSearch_freeIndex (id : Identity) : (s.restartSearch id).freeIndex = s.freeIndex := rfl
@[simp] theorem State.restartSearch_pending (id : Identity) : (s.restartSearch id).pending = s.pending := rfl

/-! ### setHearing -/

@[simp] theorem State.setHearing_powered (h : Hearing) : (s.setHearing h).powered = s.powered := rfl
@[simp] theorem State.setHearing_resetHeld (h : Hearing) : (s.setHearing h).resetHeld = s.resetHeld := rfl
@[simp] theorem State.setHearing_phase (h : Hearing) : (s.setHearing h).phase = s.phase := rfl
@[simp] theorem State.setHearing_blockEndDue (h : Hearing) : (s.setHearing h).blockEndDue = s.blockEndDue := rfl
@[simp] theorem State.setHearing_trunkOut (h : Hearing) : (s.setHearing h).trunkOut = s.trunkOut := rfl
@[simp] theorem State.setHearing_exchangeOut (h : Hearing) : (s.setHearing h).exchangeOut = s.exchangeOut := rfl
@[simp] theorem State.setHearing_nextTrunkOut (h : Hearing) : (s.setHearing h).nextTrunkOut = s.nextTrunkOut := rfl
@[simp] theorem State.setHearing_nextExchangeOut (h : Hearing) : (s.setHearing h).nextExchangeOut = s.nextExchangeOut := rfl
@[simp] theorem State.setHearing_records (h : Hearing) : (s.setHearing h).records = s.records := rfl
@[simp] theorem State.setHearing_priorityLane (h : Hearing) : (s.setHearing h).priorityLane = s.priorityLane := rfl
@[simp] theorem State.setHearing_ordinaryLane (h : Hearing) : (s.setHearing h).ordinaryLane = s.ordinaryLane := rfl
@[simp] theorem State.setHearing_slots (h : Hearing) : (s.setHearing h).slots = s.slots := rfl
@[simp] theorem State.setHearing_free (h : Hearing) : (s.setHearing h).free = s.free := rfl
@[simp] theorem State.setHearing_waiting (h : Hearing) : (s.setHearing h).waiting = s.waiting := rfl
@[simp] theorem State.setHearing_settings (h : Hearing) : (s.setHearing h).settings = s.settings := rfl
@[simp] theorem State.setHearing_refCounts (h : Hearing) : (s.setHearing h).refCounts = s.refCounts := rfl
@[simp] theorem State.setHearing_store (h : Hearing) : (s.setHearing h).store = s.store := rfl
@[simp] theorem State.setHearing_summary (h : Hearing) : (s.setHearing h).summary = s.summary := rfl
@[simp] theorem State.setHearing_mask (h : Hearing) : (s.setHearing h).mask = s.mask := rfl
@[simp] theorem State.setHearing_part (h : Hearing) : (s.setHearing h).part = s.part := rfl
@[simp] theorem State.setHearing_port (h : Hearing) : (s.setHearing h).port = { s.port with hearing := h } := rfl
@[simp] theorem State.setHearing_freeIndex (h : Hearing) : (s.setHearing h).freeIndex = s.freeIndex := rfl
@[simp] theorem State.setHearing_pending (h : Hearing) : (s.setHearing h).pending = s.pending := rfl

/-! ### setProfile -/

@[simp] theorem State.setProfile_powered (n : ProfileNumber) (p : Profile) : (s.setProfile n p).powered = s.powered := rfl
@[simp] theorem State.setProfile_resetHeld (n : ProfileNumber) (p : Profile) : (s.setProfile n p).resetHeld = s.resetHeld := rfl
@[simp] theorem State.setProfile_phase (n : ProfileNumber) (p : Profile) : (s.setProfile n p).phase = s.phase := rfl
@[simp] theorem State.setProfile_blockEndDue (n : ProfileNumber) (p : Profile) : (s.setProfile n p).blockEndDue = s.blockEndDue := rfl
@[simp] theorem State.setProfile_trunkOut (n : ProfileNumber) (p : Profile) : (s.setProfile n p).trunkOut = s.trunkOut := rfl
@[simp] theorem State.setProfile_exchangeOut (n : ProfileNumber) (p : Profile) : (s.setProfile n p).exchangeOut = s.exchangeOut := rfl
@[simp] theorem State.setProfile_nextTrunkOut (n : ProfileNumber) (p : Profile) : (s.setProfile n p).nextTrunkOut = s.nextTrunkOut := rfl
@[simp] theorem State.setProfile_nextExchangeOut (n : ProfileNumber) (p : Profile) : (s.setProfile n p).nextExchangeOut = s.nextExchangeOut := rfl
@[simp] theorem State.setProfile_records (n : ProfileNumber) (p : Profile) : (s.setProfile n p).records = s.records := rfl
@[simp] theorem State.setProfile_priorityLane (n : ProfileNumber) (p : Profile) : (s.setProfile n p).priorityLane = s.priorityLane := rfl
@[simp] theorem State.setProfile_ordinaryLane (n : ProfileNumber) (p : Profile) : (s.setProfile n p).ordinaryLane = s.ordinaryLane := rfl
@[simp] theorem State.setProfile_slots (n : ProfileNumber) (p : Profile) : (s.setProfile n p).slots = s.slots := rfl
@[simp] theorem State.setProfile_free (n : ProfileNumber) (p : Profile) : (s.setProfile n p).free = s.free := rfl
@[simp] theorem State.setProfile_waiting (n : ProfileNumber) (p : Profile) : (s.setProfile n p).waiting = s.waiting := rfl
@[simp] theorem State.setProfile_refCounts (n : ProfileNumber) (p : Profile) : (s.setProfile n p).refCounts = s.refCounts := rfl
@[simp] theorem State.setProfile_store (n : ProfileNumber) (p : Profile) : (s.setProfile n p).store = s.store := rfl
@[simp] theorem State.setProfile_summary (n : ProfileNumber) (p : Profile) : (s.setProfile n p).summary = s.summary := rfl
@[simp] theorem State.setProfile_mask (n : ProfileNumber) (p : Profile) : (s.setProfile n p).mask = s.mask := rfl
@[simp] theorem State.setProfile_part (n : ProfileNumber) (p : Profile) : (s.setProfile n p).part = s.part := rfl
@[simp] theorem State.setProfile_port (n : ProfileNumber) (p : Profile) : (s.setProfile n p).port = s.port := rfl
@[simp] theorem State.setProfile_freeIndex (n : ProfileNumber) (p : Profile) : (s.setProfile n p).freeIndex = s.freeIndex := rfl
@[simp] theorem State.setProfile_pending (n : ProfileNumber) (p : Profile) : (s.setProfile n p).pending = s.pending := rfl

/-! ### setRule -/

@[simp] theorem State.setRule_powered (n : RuleNumber) (rule : RouteRule) : (s.setRule n rule).powered = s.powered := rfl
@[simp] theorem State.setRule_resetHeld (n : RuleNumber) (rule : RouteRule) : (s.setRule n rule).resetHeld = s.resetHeld := rfl
@[simp] theorem State.setRule_phase (n : RuleNumber) (rule : RouteRule) : (s.setRule n rule).phase = s.phase := rfl
@[simp] theorem State.setRule_blockEndDue (n : RuleNumber) (rule : RouteRule) : (s.setRule n rule).blockEndDue = s.blockEndDue := rfl
@[simp] theorem State.setRule_trunkOut (n : RuleNumber) (rule : RouteRule) : (s.setRule n rule).trunkOut = s.trunkOut := rfl
@[simp] theorem State.setRule_exchangeOut (n : RuleNumber) (rule : RouteRule) : (s.setRule n rule).exchangeOut = s.exchangeOut := rfl
@[simp] theorem State.setRule_nextTrunkOut (n : RuleNumber) (rule : RouteRule) : (s.setRule n rule).nextTrunkOut = s.nextTrunkOut := rfl
@[simp] theorem State.setRule_nextExchangeOut (n : RuleNumber) (rule : RouteRule) : (s.setRule n rule).nextExchangeOut = s.nextExchangeOut := rfl
@[simp] theorem State.setRule_records (n : RuleNumber) (rule : RouteRule) : (s.setRule n rule).records = s.records := rfl
@[simp] theorem State.setRule_priorityLane (n : RuleNumber) (rule : RouteRule) : (s.setRule n rule).priorityLane = s.priorityLane := rfl
@[simp] theorem State.setRule_ordinaryLane (n : RuleNumber) (rule : RouteRule) : (s.setRule n rule).ordinaryLane = s.ordinaryLane := rfl
@[simp] theorem State.setRule_slots (n : RuleNumber) (rule : RouteRule) : (s.setRule n rule).slots = s.slots := rfl
@[simp] theorem State.setRule_free (n : RuleNumber) (rule : RouteRule) : (s.setRule n rule).free = s.free := rfl
@[simp] theorem State.setRule_waiting (n : RuleNumber) (rule : RouteRule) : (s.setRule n rule).waiting = s.waiting := rfl
@[simp] theorem State.setRule_refCounts (n : RuleNumber) (rule : RouteRule) : (s.setRule n rule).refCounts = s.refCounts := rfl
@[simp] theorem State.setRule_store (n : RuleNumber) (rule : RouteRule) : (s.setRule n rule).store = s.store := rfl
@[simp] theorem State.setRule_summary (n : RuleNumber) (rule : RouteRule) : (s.setRule n rule).summary = s.summary := rfl
@[simp] theorem State.setRule_mask (n : RuleNumber) (rule : RouteRule) : (s.setRule n rule).mask = s.mask := rfl
@[simp] theorem State.setRule_part (n : RuleNumber) (rule : RouteRule) : (s.setRule n rule).part = s.part := rfl
@[simp] theorem State.setRule_port (n : RuleNumber) (rule : RouteRule) : (s.setRule n rule).port = s.port := rfl
@[simp] theorem State.setRule_freeIndex (n : RuleNumber) (rule : RouteRule) : (s.setRule n rule).freeIndex = s.freeIndex := rfl
@[simp] theorem State.setRule_pending (n : RuleNumber) (rule : RouteRule) : (s.setRule n rule).pending = s.pending := rfl

/-! ### advancePhase -/

@[simp] theorem State.advancePhase_powered : (s.advancePhase).powered = s.powered := rfl
@[simp] theorem State.advancePhase_resetHeld : (s.advancePhase).resetHeld = s.resetHeld := rfl
@[simp] theorem State.advancePhase_phase : (s.advancePhase).phase = some (nextPhase s.phase) := rfl
@[simp] theorem State.advancePhase_blockEndDue : (s.advancePhase).blockEndDue = (nextPhase s.phase == 63) := rfl
@[simp] theorem State.advancePhase_trunkOut : (s.advancePhase).trunkOut = s.trunkOut := rfl
@[simp] theorem State.advancePhase_exchangeOut : (s.advancePhase).exchangeOut = s.exchangeOut := rfl
@[simp] theorem State.advancePhase_nextTrunkOut : (s.advancePhase).nextTrunkOut = s.nextTrunkOut := rfl
@[simp] theorem State.advancePhase_nextExchangeOut : (s.advancePhase).nextExchangeOut = s.nextExchangeOut := rfl
@[simp] theorem State.advancePhase_records : (s.advancePhase).records = s.records := rfl
@[simp] theorem State.advancePhase_priorityLane : (s.advancePhase).priorityLane = s.priorityLane := rfl
@[simp] theorem State.advancePhase_ordinaryLane : (s.advancePhase).ordinaryLane = s.ordinaryLane := rfl
@[simp] theorem State.advancePhase_slots : (s.advancePhase).slots = s.slots := rfl
@[simp] theorem State.advancePhase_free : (s.advancePhase).free = s.free := rfl
@[simp] theorem State.advancePhase_waiting : (s.advancePhase).waiting = s.waiting := rfl
@[simp] theorem State.advancePhase_settings : (s.advancePhase).settings = s.settings := rfl
@[simp] theorem State.advancePhase_refCounts : (s.advancePhase).refCounts = s.refCounts := rfl
@[simp] theorem State.advancePhase_store : (s.advancePhase).store = s.store := rfl
@[simp] theorem State.advancePhase_summary : (s.advancePhase).summary = s.summary := rfl
@[simp] theorem State.advancePhase_mask : (s.advancePhase).mask = s.mask := rfl
@[simp] theorem State.advancePhase_part : (s.advancePhase).part = s.part := rfl
@[simp] theorem State.advancePhase_port : (s.advancePhase).port = s.port := rfl
@[simp] theorem State.advancePhase_freeIndex : (s.advancePhase).freeIndex = s.freeIndex := rfl
@[simp] theorem State.advancePhase_pending : (s.advancePhase).pending = s.pending := rfl

/-! ### tearStore -/

@[simp] theorem State.tearStore_powered (c : Settings) : (s.tearStore c).powered = s.powered := rfl
@[simp] theorem State.tearStore_resetHeld (c : Settings) : (s.tearStore c).resetHeld = s.resetHeld := rfl
@[simp] theorem State.tearStore_phase (c : Settings) : (s.tearStore c).phase = s.phase := rfl
@[simp] theorem State.tearStore_blockEndDue (c : Settings) : (s.tearStore c).blockEndDue = s.blockEndDue := rfl
@[simp] theorem State.tearStore_trunkOut (c : Settings) : (s.tearStore c).trunkOut = s.trunkOut := rfl
@[simp] theorem State.tearStore_exchangeOut (c : Settings) : (s.tearStore c).exchangeOut = s.exchangeOut := rfl
@[simp] theorem State.tearStore_nextTrunkOut (c : Settings) : (s.tearStore c).nextTrunkOut = s.nextTrunkOut := rfl
@[simp] theorem State.tearStore_nextExchangeOut (c : Settings) : (s.tearStore c).nextExchangeOut = s.nextExchangeOut := rfl
@[simp] theorem State.tearStore_records (c : Settings) : (s.tearStore c).records = s.records := rfl
@[simp] theorem State.tearStore_priorityLane (c : Settings) : (s.tearStore c).priorityLane = s.priorityLane := rfl
@[simp] theorem State.tearStore_ordinaryLane (c : Settings) : (s.tearStore c).ordinaryLane = s.ordinaryLane := rfl
@[simp] theorem State.tearStore_slots (c : Settings) : (s.tearStore c).slots = s.slots := rfl
@[simp] theorem State.tearStore_free (c : Settings) : (s.tearStore c).free = s.free := rfl
@[simp] theorem State.tearStore_waiting (c : Settings) : (s.tearStore c).waiting = s.waiting := rfl
@[simp] theorem State.tearStore_settings (c : Settings) : (s.tearStore c).settings = s.settings := rfl
@[simp] theorem State.tearStore_refCounts (c : Settings) : (s.tearStore c).refCounts = s.refCounts := rfl
@[simp] theorem State.tearStore_summary (c : Settings) : (s.tearStore c).summary = s.summary := rfl
@[simp] theorem State.tearStore_mask (c : Settings) : (s.tearStore c).mask = s.mask := rfl
@[simp] theorem State.tearStore_part (c : Settings) : (s.tearStore c).part = s.part := rfl
@[simp] theorem State.tearStore_port (c : Settings) : (s.tearStore c).port = s.port := rfl
@[simp] theorem State.tearStore_freeIndex (c : Settings) : (s.tearStore c).freeIndex = s.freeIndex + 1 := rfl
@[simp] theorem State.tearStore_pending (c : Settings) : (s.tearStore c).pending = s.pending := rfl

/-! ### commitStore -/

@[simp] theorem State.commitStore_powered (c : Settings) : (s.commitStore c).powered = s.powered := rfl
@[simp] theorem State.commitStore_resetHeld (c : Settings) : (s.commitStore c).resetHeld = s.resetHeld := rfl
@[simp] theorem State.commitStore_phase (c : Settings) : (s.commitStore c).phase = s.phase := rfl
@[simp] theorem State.commitStore_blockEndDue (c : Settings) : (s.commitStore c).blockEndDue = s.blockEndDue := rfl
@[simp] theorem State.commitStore_trunkOut (c : Settings) : (s.commitStore c).trunkOut = s.trunkOut := rfl
@[simp] theorem State.commitStore_exchangeOut (c : Settings) : (s.commitStore c).exchangeOut = s.exchangeOut := rfl
@[simp] theorem State.commitStore_nextTrunkOut (c : Settings) : (s.commitStore c).nextTrunkOut = s.nextTrunkOut := rfl
@[simp] theorem State.commitStore_nextExchangeOut (c : Settings) : (s.commitStore c).nextExchangeOut = s.nextExchangeOut := rfl
@[simp] theorem State.commitStore_records (c : Settings) : (s.commitStore c).records = s.records := rfl
@[simp] theorem State.commitStore_priorityLane (c : Settings) : (s.commitStore c).priorityLane = s.priorityLane := rfl
@[simp] theorem State.commitStore_ordinaryLane (c : Settings) : (s.commitStore c).ordinaryLane = s.ordinaryLane := rfl
@[simp] theorem State.commitStore_slots (c : Settings) : (s.commitStore c).slots = s.slots := rfl
@[simp] theorem State.commitStore_free (c : Settings) : (s.commitStore c).free = s.free := rfl
@[simp] theorem State.commitStore_waiting (c : Settings) : (s.commitStore c).waiting = s.waiting := rfl
@[simp] theorem State.commitStore_settings (c : Settings) : (s.commitStore c).settings = s.settings := rfl
@[simp] theorem State.commitStore_refCounts (c : Settings) : (s.commitStore c).refCounts = s.refCounts := rfl
@[simp] theorem State.commitStore_store (c : Settings) : (s.commitStore c).store = { s.store with contents := c, valid := true, inFlight := none } := rfl
@[simp] theorem State.commitStore_summary (c : Settings) : (s.commitStore c).summary = s.summary := rfl
@[simp] theorem State.commitStore_mask (c : Settings) : (s.commitStore c).mask = s.mask := rfl
@[simp] theorem State.commitStore_part (c : Settings) : (s.commitStore c).part = s.part := rfl
@[simp] theorem State.commitStore_port (c : Settings) : (s.commitStore c).port = s.port := rfl
@[simp] theorem State.commitStore_freeIndex (c : Settings) : (s.commitStore c).freeIndex = s.freeIndex := rfl
@[simp] theorem State.commitStore_pending (c : Settings) : (s.commitStore c).pending = s.pending := rfl

/-! ### accumulateSearches -/

@[simp] theorem State.accumulateSearches_powered (x : List Sample) : (s.accumulateSearches x).powered = s.powered := rfl
@[simp] theorem State.accumulateSearches_resetHeld (x : List Sample) : (s.accumulateSearches x).resetHeld = s.resetHeld := rfl
@[simp] theorem State.accumulateSearches_phase (x : List Sample) : (s.accumulateSearches x).phase = s.phase := rfl
@[simp] theorem State.accumulateSearches_blockEndDue (x : List Sample) : (s.accumulateSearches x).blockEndDue = s.blockEndDue := rfl
@[simp] theorem State.accumulateSearches_trunkOut (x : List Sample) : (s.accumulateSearches x).trunkOut = s.trunkOut := rfl
@[simp] theorem State.accumulateSearches_exchangeOut (x : List Sample) : (s.accumulateSearches x).exchangeOut = s.exchangeOut := rfl
@[simp] theorem State.accumulateSearches_nextTrunkOut (x : List Sample) : (s.accumulateSearches x).nextTrunkOut = s.nextTrunkOut := rfl
@[simp] theorem State.accumulateSearches_nextExchangeOut (x : List Sample) : (s.accumulateSearches x).nextExchangeOut = s.nextExchangeOut := rfl
@[simp] theorem State.accumulateSearches_records (x : List Sample) : (s.accumulateSearches x).records = s.records := rfl
@[simp] theorem State.accumulateSearches_priorityLane (x : List Sample) : (s.accumulateSearches x).priorityLane = s.priorityLane := rfl
@[simp] theorem State.accumulateSearches_ordinaryLane (x : List Sample) : (s.accumulateSearches x).ordinaryLane = s.ordinaryLane := rfl
@[simp] theorem State.accumulateSearches_free (x : List Sample) : (s.accumulateSearches x).free = s.free := rfl
@[simp] theorem State.accumulateSearches_waiting (x : List Sample) : (s.accumulateSearches x).waiting = s.waiting := rfl
@[simp] theorem State.accumulateSearches_settings (x : List Sample) : (s.accumulateSearches x).settings = s.settings := rfl
@[simp] theorem State.accumulateSearches_refCounts (x : List Sample) : (s.accumulateSearches x).refCounts = s.refCounts := rfl
@[simp] theorem State.accumulateSearches_store (x : List Sample) : (s.accumulateSearches x).store = s.store := rfl
@[simp] theorem State.accumulateSearches_summary (x : List Sample) : (s.accumulateSearches x).summary = s.summary := rfl
@[simp] theorem State.accumulateSearches_mask (x : List Sample) : (s.accumulateSearches x).mask = s.mask := rfl
@[simp] theorem State.accumulateSearches_part (x : List Sample) : (s.accumulateSearches x).part = s.part := rfl
@[simp] theorem State.accumulateSearches_port (x : List Sample) : (s.accumulateSearches x).port = s.port := rfl
@[simp] theorem State.accumulateSearches_freeIndex (x : List Sample) : (s.accumulateSearches x).freeIndex = s.freeIndex := rfl
@[simp] theorem State.accumulateSearches_pending (x : List Sample) : (s.accumulateSearches x).pending = s.pending := rfl

/-! ### workFrame -/

@[simp] theorem State.workFrame_powered (tin xin : List Sample) : (s.workFrame tin xin).powered = s.powered := rfl
@[simp] theorem State.workFrame_resetHeld (tin xin : List Sample) : (s.workFrame tin xin).resetHeld = s.resetHeld := rfl
@[simp] theorem State.workFrame_phase (tin xin : List Sample) : (s.workFrame tin xin).phase = s.phase := rfl
@[simp] theorem State.workFrame_blockEndDue (tin xin : List Sample) : (s.workFrame tin xin).blockEndDue = s.blockEndDue := rfl
@[simp] theorem State.workFrame_trunkOut (tin xin : List Sample) : (s.workFrame tin xin).trunkOut = s.nextTrunkOut := rfl
@[simp] theorem State.workFrame_exchangeOut (tin xin : List Sample) : (s.workFrame tin xin).exchangeOut = s.nextExchangeOut := rfl
@[simp] theorem State.workFrame_records (tin xin : List Sample) : (s.workFrame tin xin).records = (s.frameResults tin xin).map (·.record) := rfl
@[simp] theorem State.workFrame_priorityLane (tin xin : List Sample) : (s.workFrame tin xin).priorityLane = s.priorityLane := rfl
@[simp] theorem State.workFrame_ordinaryLane (tin xin : List Sample) : (s.workFrame tin xin).ordinaryLane = s.ordinaryLane := rfl
@[simp] theorem State.workFrame_slots (tin xin : List Sample) : (s.workFrame tin xin).slots = s.slots := rfl
@[simp] theorem State.workFrame_free (tin xin : List Sample) : (s.workFrame tin xin).free = s.free := rfl
@[simp] theorem State.workFrame_waiting (tin xin : List Sample) : (s.workFrame tin xin).waiting = s.waiting := rfl
@[simp] theorem State.workFrame_settings (tin xin : List Sample) : (s.workFrame tin xin).settings = s.settings := rfl
@[simp] theorem State.workFrame_refCounts (tin xin : List Sample) : (s.workFrame tin xin).refCounts = s.refCounts := rfl
@[simp] theorem State.workFrame_store (tin xin : List Sample) : (s.workFrame tin xin).store = s.store := rfl
@[simp] theorem State.workFrame_summary (tin xin : List Sample) : (s.workFrame tin xin).summary = s.summary := rfl
@[simp] theorem State.workFrame_mask (tin xin : List Sample) : (s.workFrame tin xin).mask = s.mask := rfl
@[simp] theorem State.workFrame_part (tin xin : List Sample) : (s.workFrame tin xin).part = s.part := rfl
@[simp] theorem State.workFrame_port (tin xin : List Sample) : (s.workFrame tin xin).port = s.port := rfl
@[simp] theorem State.workFrame_freeIndex (tin xin : List Sample) : (s.workFrame tin xin).freeIndex = s.freeIndex := rfl
@[simp] theorem State.workFrame_pending (tin xin : List Sample) : (s.workFrame tin xin).pending = s.pending := rfl

/-! ### grantHead -/

@[simp] theorem State.grantHead_powered (id : Identity) (o : Nat) (more : List Nat) (behind : List Identity) : (s.grantHead id o more behind).powered = s.powered := rfl
@[simp] theorem State.grantHead_resetHeld (id : Identity) (o : Nat) (more : List Nat) (behind : List Identity) : (s.grantHead id o more behind).resetHeld = s.resetHeld := rfl
@[simp] theorem State.grantHead_phase (id : Identity) (o : Nat) (more : List Nat) (behind : List Identity) : (s.grantHead id o more behind).phase = s.phase := rfl
@[simp] theorem State.grantHead_blockEndDue (id : Identity) (o : Nat) (more : List Nat) (behind : List Identity) : (s.grantHead id o more behind).blockEndDue = s.blockEndDue := rfl
@[simp] theorem State.grantHead_trunkOut (id : Identity) (o : Nat) (more : List Nat) (behind : List Identity) : (s.grantHead id o more behind).trunkOut = s.trunkOut := rfl
@[simp] theorem State.grantHead_exchangeOut (id : Identity) (o : Nat) (more : List Nat) (behind : List Identity) : (s.grantHead id o more behind).exchangeOut = s.exchangeOut := rfl
@[simp] theorem State.grantHead_nextTrunkOut (id : Identity) (o : Nat) (more : List Nat) (behind : List Identity) : (s.grantHead id o more behind).nextTrunkOut = s.nextTrunkOut := rfl
@[simp] theorem State.grantHead_nextExchangeOut (id : Identity) (o : Nat) (more : List Nat) (behind : List Identity) : (s.grantHead id o more behind).nextExchangeOut = s.nextExchangeOut := rfl
@[simp] theorem State.grantHead_priorityLane (id : Identity) (o : Nat) (more : List Nat) (behind : List Identity) : (s.grantHead id o more behind).priorityLane = s.priorityLane := rfl
@[simp] theorem State.grantHead_ordinaryLane (id : Identity) (o : Nat) (more : List Nat) (behind : List Identity) : (s.grantHead id o more behind).ordinaryLane = s.ordinaryLane := rfl
@[simp] theorem State.grantHead_slots (id : Identity) (o : Nat) (more : List Nat) (behind : List Identity) : (s.grantHead id o more behind).slots = s.slots := rfl
@[simp] theorem State.grantHead_free (id : Identity) (o : Nat) (more : List Nat) (behind : List Identity) : (s.grantHead id o more behind).free = s.free - 1 := rfl
@[simp] theorem State.grantHead_waiting (id : Identity) (o : Nat) (more : List Nat) (behind : List Identity) : (s.grantHead id o more behind).waiting = if more = [] then behind else behind ++ [id] := rfl
@[simp] theorem State.grantHead_settings (id : Identity) (o : Nat) (more : List Nat) (behind : List Identity) : (s.grantHead id o more behind).settings = s.settings := rfl
@[simp] theorem State.grantHead_refCounts (id : Identity) (o : Nat) (more : List Nat) (behind : List Identity) : (s.grantHead id o more behind).refCounts = s.refCounts := rfl
@[simp] theorem State.grantHead_store (id : Identity) (o : Nat) (more : List Nat) (behind : List Identity) : (s.grantHead id o more behind).store = s.store := rfl
@[simp] theorem State.grantHead_summary (id : Identity) (o : Nat) (more : List Nat) (behind : List Identity) : (s.grantHead id o more behind).summary = s.summary := rfl
@[simp] theorem State.grantHead_mask (id : Identity) (o : Nat) (more : List Nat) (behind : List Identity) : (s.grantHead id o more behind).mask = s.mask := rfl
@[simp] theorem State.grantHead_part (id : Identity) (o : Nat) (more : List Nat) (behind : List Identity) : (s.grantHead id o more behind).part = { s.part with grants := countUp s.part.grants } := rfl
@[simp] theorem State.grantHead_port (id : Identity) (o : Nat) (more : List Nat) (behind : List Identity) : (s.grantHead id o more behind).port = s.port := rfl
@[simp] theorem State.grantHead_freeIndex (id : Identity) (o : Nat) (more : List Nat) (behind : List Identity) : (s.grantHead id o more behind).freeIndex = s.freeIndex := rfl
@[simp] theorem State.grantHead_pending (id : Identity) (o : Nat) (more : List Nat) (behind : List Identity) : (s.grantHead id o more behind).pending = s.pending := rfl

/-! ### restartPart -/

@[simp] theorem State.restartPart_powered : (s.restartPart).powered = s.powered := rfl
@[simp] theorem State.restartPart_resetHeld : (s.restartPart).resetHeld = s.resetHeld := rfl
@[simp] theorem State.restartPart_phase : (s.restartPart).phase = s.phase := rfl
@[simp] theorem State.restartPart_blockEndDue : (s.restartPart).blockEndDue = s.blockEndDue := rfl
@[simp] theorem State.restartPart_trunkOut : (s.restartPart).trunkOut = s.trunkOut := rfl
@[simp] theorem State.restartPart_exchangeOut : (s.restartPart).exchangeOut = s.exchangeOut := rfl
@[simp] theorem State.restartPart_nextTrunkOut : (s.restartPart).nextTrunkOut = s.nextTrunkOut := rfl
@[simp] theorem State.restartPart_nextExchangeOut : (s.restartPart).nextExchangeOut = s.nextExchangeOut := rfl
@[simp] theorem State.restartPart_records : (s.restartPart).records = [] := rfl
@[simp] theorem State.restartPart_priorityLane : (s.restartPart).priorityLane = [] := rfl
@[simp] theorem State.restartPart_ordinaryLane : (s.restartPart).ordinaryLane = [] := rfl
@[simp] theorem State.restartPart_slots : (s.restartPart).slots = [] := rfl
@[simp] theorem State.restartPart_free : (s.restartPart).free = 144 := rfl
@[simp] theorem State.restartPart_waiting : (s.restartPart).waiting = [] := rfl
@[simp] theorem State.restartPart_settings : (s.restartPart).settings = s.settings := rfl
@[simp] theorem State.restartPart_refCounts : (s.restartPart).refCounts = Vector.replicate 8 0 := rfl
@[simp] theorem State.restartPart_store : (s.restartPart).store = s.store := rfl
@[simp] theorem State.restartPart_summary : (s.restartPart).summary = EventKind.restarted.flag := rfl
@[simp] theorem State.restartPart_mask : (s.restartPart).mask = s.mask := rfl
@[simp] theorem State.restartPart_part : (s.restartPart).part = {} := rfl
@[simp] theorem State.restartPart_port : (s.restartPart).port = s.port := rfl
@[simp] theorem State.restartPart_freeIndex : (s.restartPart).freeIndex = s.freeIndex := rfl
@[simp] theorem State.restartPart_pending : (s.restartPart).pending = s.pending := rfl

/-! ### respond: only the port's reply -/

@[simp] theorem respond_powered (code : Byte) (a : Answer) : (respond code a).powered = a.state.powered := by
  unfold respond; split <;> rfl
@[simp] theorem respond_phase (code : Byte) (a : Answer) : (respond code a).phase = a.state.phase := by
  unfold respond; split <;> rfl
@[simp] theorem respond_blockEndDue (code : Byte) (a : Answer) : (respond code a).blockEndDue = a.state.blockEndDue := by
  unfold respond; split <;> rfl
@[simp] theorem respond_trunkOut (code : Byte) (a : Answer) : (respond code a).trunkOut = a.state.trunkOut := by
  unfold respond; split <;> rfl
@[simp] theorem respond_exchangeOut (code : Byte) (a : Answer) : (respond code a).exchangeOut = a.state.exchangeOut := by
  unfold respond; split <;> rfl
@[simp] theorem respond_nextTrunkOut (code : Byte) (a : Answer) : (respond code a).nextTrunkOut = a.state.nextTrunkOut := by
  unfold respond; split <;> rfl
@[simp] theorem respond_nextExchangeOut (code : Byte) (a : Answer) : (respond code a).nextExchangeOut = a.state.nextExchangeOut := by
  unfold respond; split <;> rfl
@[simp] theorem respond_records (code : Byte) (a : Answer) : (respond code a).records = a.state.records := by
  unfold respond; split <;> rfl
@[simp] theorem respond_priorityLane (code : Byte) (a : Answer) : (respond code a).priorityLane = a.state.priorityLane := by
  unfold respond; split <;> rfl
@[simp] theorem respond_ordinaryLane (code : Byte) (a : Answer) : (respond code a).ordinaryLane = a.state.ordinaryLane := by
  unfold respond; split <;> rfl
@[simp] theorem respond_slots (code : Byte) (a : Answer) : (respond code a).slots = a.state.slots := by
  unfold respond; split <;> rfl
@[simp] theorem respond_free (code : Byte) (a : Answer) : (respond code a).free = a.state.free := by
  unfold respond; split <;> rfl
@[simp] theorem respond_waiting (code : Byte) (a : Answer) : (respond code a).waiting = a.state.waiting := by
  unfold respond; split <;> rfl
@[simp] theorem respond_settings (code : Byte) (a : Answer) : (respond code a).settings = a.state.settings := by
  unfold respond; split <;> rfl
@[simp] theorem respond_refCounts (code : Byte) (a : Answer) : (respond code a).refCounts = a.state.refCounts := by
  unfold respond; split <;> rfl
@[simp] theorem respond_store (code : Byte) (a : Answer) : (respond code a).store = a.state.store := by
  unfold respond; split <;> rfl
@[simp] theorem respond_summary (code : Byte) (a : Answer) : (respond code a).summary = a.state.summary := by
  unfold respond; split <;> rfl
@[simp] theorem respond_mask (code : Byte) (a : Answer) : (respond code a).mask = a.state.mask := by
  unfold respond; split <;> rfl
@[simp] theorem respond_part (code : Byte) (a : Answer) : (respond code a).part = a.state.part := by
  unfold respond; split <;> rfl
@[simp] theorem respond_freeIndex (code : Byte) (a : Answer) : (respond code a).freeIndex = a.state.freeIndex := by
  unfold respond; split <;> rfl
@[simp] theorem respond_pending (code : Byte) (a : Answer) : (respond code a).pending = a.state.pending := by
  unfold respond; split <;> rfl
@[simp] theorem respond_port_hearing (code : Byte) (a : Answer) : (respond code a).port.hearing = a.state.port.hearing := by
  unfold respond; split <;> rfl
@[simp] theorem respond_port_address (code : Byte) (a : Answer) : (respond code a).port.address = a.state.port.address := by
  unfold respond; split <;> rfl
@[simp] theorem respond_port_rate (code : Byte) (a : Answer) : (respond code a).port.rate = a.state.port.rate := by
  unfold respond; split <;> rfl

end Sys2Proof.Machine
end

