-- ==== Sys2Proof/Laws/Records.lean ====
section
/-! SUPPORT. No change to a record touches its identity; which of them keep its position, profile and windows. -/

namespace Sys2Proof.Machine

variable (r : Record)

@[simp] theorem promoteRecord_identity : (promoteRecord r).identity = r.identity := rfl
@[simp] theorem promoteRecord_position : (promoteRecord r).position = r.position := rfl
@[simp] theorem promoteRecord_profile : (promoteRecord r).profile = r.profile := rfl
@[simp] theorem promoteRecord_held : (promoteRecord r).held = r.held := rfl
@[simp] theorem promoteRecord_unplaced : (promoteRecord r).unplaced = r.unplaced := rfl
@[simp] theorem changePathRecord_identity : (changePathRecord r).identity = r.identity := rfl
@[simp] theorem changePathRecord_position : (changePathRecord r).position = r.position := rfl
@[simp] theorem changePathRecord_profile : (changePathRecord r).profile = r.profile := rfl
@[simp] theorem changePathRecord_held : (changePathRecord r).held = r.held := rfl
@[simp] theorem changePathRecord_unplaced : (changePathRecord r).unplaced = r.unplaced := rfl
@[simp] theorem bypassRecord_identity : (bypassRecord r).identity = r.identity := rfl
@[simp] theorem bypassRecord_position : (bypassRecord r).position = r.position := rfl
@[simp] theorem bypassRecord_profile : (bypassRecord r).profile = r.profile := rfl
@[simp] theorem bypassRecord_held : (bypassRecord r).held = r.held := rfl
@[simp] theorem bypassRecord_unplaced : (bypassRecord r).unplaced = r.unplaced := rfl
@[simp] theorem returnRecord_identity : (returnRecord r).identity = r.identity := rfl
@[simp] theorem returnRecord_position : (returnRecord r).position = r.position := rfl
@[simp] theorem returnRecord_profile : (returnRecord r).profile = r.profile := rfl
@[simp] theorem returnRecord_held : (returnRecord r).held = r.held := rfl
@[simp] theorem returnRecord_unplaced : (returnRecord r).unplaced = r.unplaced := rfl
@[simp] theorem lapseRecord_identity : (lapseRecord r).identity = r.identity := rfl
@[simp] theorem lapseRecord_position : (lapseRecord r).position = r.position := rfl
@[simp] theorem lapseRecord_profile : (lapseRecord r).profile = r.profile := rfl
@[simp] theorem lapseRecord_held : (lapseRecord r).held = r.held := rfl
@[simp] theorem lapseRecord_unplaced : (lapseRecord r).unplaced = r.unplaced := rfl
@[simp] theorem divergeRecord_identity : (divergeRecord r).identity = r.identity := rfl
@[simp] theorem divergeRecord_position : (divergeRecord r).position = r.position := rfl
@[simp] theorem divergeRecord_profile : (divergeRecord r).profile = r.profile := rfl
@[simp] theorem passBlock_identity : (passBlock r).identity = r.identity := rfl
@[simp] theorem passBlock_position : (passBlock r).position = r.position := rfl
@[simp] theorem passBlock_profile : (passBlock r).profile = r.profile := rfl
@[simp] theorem passBlock_held : (passBlock r).held = r.held := rfl
@[simp] theorem passBlock_unplaced : (passBlock r).unplaced = r.unplaced := rfl
@[simp] theorem failBlock_identity : (failBlock r).identity = r.identity := rfl
@[simp] theorem failBlock_position : (failBlock r).position = r.position := rfl
@[simp] theorem failBlock_profile : (failBlock r).profile = r.profile := rfl
@[simp] theorem failBlock_held : (failBlock r).held = r.held := rfl
@[simp] theorem failBlock_unplaced : (failBlock r).unplaced = r.unplaced := rfl
@[simp] theorem marginalBlock_identity : (marginalBlock r).identity = r.identity := rfl
@[simp] theorem marginalBlock_position : (marginalBlock r).position = r.position := rfl
@[simp] theorem marginalBlock_profile : (marginalBlock r).profile = r.profile := rfl
@[simp] theorem marginalBlock_held : (marginalBlock r).held = r.held := rfl
@[simp] theorem marginalBlock_unplaced : (marginalBlock r).unplaced = r.unplaced := rfl
@[simp] theorem countConverged_identity : (countConverged r).identity = r.identity := by
  simp only [countConverged]
  try (repeat' split) <;> rfl
@[simp] theorem countConverged_position : (countConverged r).position = r.position := by
  simp only [countConverged]
  try (repeat' split) <;> rfl
@[simp] theorem countConverged_profile : (countConverged r).profile = r.profile := by
  simp only [countConverged]
  try (repeat' split) <;> rfl
@[simp] theorem countConverged_held : (countConverged r).held = r.held := by
  simp only [countConverged]
  try (repeat' split) <;> rfl
@[simp] theorem countConverged_unplaced : (countConverged r).unplaced = r.unplaced := by
  simp only [countConverged]
  try (repeat' split) <;> rfl
@[simp] theorem countClip_identity : (countClip r).identity = r.identity := rfl
@[simp] theorem countClip_position : (countClip r).position = r.position := rfl
@[simp] theorem countClip_profile : (countClip r).profile = r.profile := rfl
@[simp] theorem countClip_held : (countClip r).held = r.held := rfl
@[simp] theorem countClip_unplaced : (countClip r).unplaced = r.unplaced := rfl
@[simp] theorem measureBlock_identity (p : Profile) : (measureBlock p r).identity = r.identity := by
  simp only [measureBlock, countTalkAndSuppression, levelControl, reviseBackground]
  try (repeat' split) <;> rfl
@[simp] theorem measureBlock_position (p : Profile) : (measureBlock p r).position = r.position := by
  simp only [measureBlock, countTalkAndSuppression, levelControl, reviseBackground]
  try (repeat' split) <;> rfl
@[simp] theorem measureBlock_profile (p : Profile) : (measureBlock p r).profile = r.profile := by
  simp only [measureBlock, countTalkAndSuppression, levelControl, reviseBackground]
  try (repeat' split) <;> rfl
@[simp] theorem measureBlock_held (p : Profile) : (measureBlock p r).held = r.held := by
  simp only [measureBlock, countTalkAndSuppression, levelControl, reviseBackground]
  try (repeat' split) <;> rfl
@[simp] theorem measureBlock_unplaced (p : Profile) : (measureBlock p r).unplaced = r.unplaced := by
  simp only [measureBlock, countTalkAndSuppression, levelControl, reviseBackground]
  try (repeat' split) <;> rfl
@[simp] theorem reviseToneOrQuiet_identity (p : Profile) : (reviseToneOrQuiet p r).identity = r.identity := by
  simp only [reviseToneOrQuiet]
  try (repeat' split) <;> rfl
@[simp] theorem reviseToneOrQuiet_position (p : Profile) : (reviseToneOrQuiet p r).position = r.position := by
  simp only [reviseToneOrQuiet]
  try (repeat' split) <;> rfl
@[simp] theorem reviseToneOrQuiet_profile (p : Profile) : (reviseToneOrQuiet p r).profile = r.profile := by
  simp only [reviseToneOrQuiet]
  try (repeat' split) <;> rfl
@[simp] theorem reviseToneOrQuiet_held (p : Profile) : (reviseToneOrQuiet p r).held = r.held := by
  simp only [reviseToneOrQuiet]
  try (repeat' split) <;> rfl
@[simp] theorem reviseToneOrQuiet_unplaced (p : Profile) : (reviseToneOrQuiet p r).unplaced = r.unplaced := by
  simp only [reviseToneOrQuiet]
  try (repeat' split) <;> rfl
@[simp] theorem reviseIdle_identity (p : Profile) : (reviseIdle p r).identity = r.identity := by
  simp only [reviseIdle]
  try (repeat' split) <;> rfl
@[simp] theorem reviseIdle_position (p : Profile) : (reviseIdle p r).position = r.position := by
  simp only [reviseIdle]
  try (repeat' split) <;> rfl
@[simp] theorem reviseIdle_profile (p : Profile) : (reviseIdle p r).profile = r.profile := by
  simp only [reviseIdle]
  try (repeat' split) <;> rfl
@[simp] theorem reviseIdle_held (p : Profile) : (reviseIdle p r).held = r.held := by
  simp only [reviseIdle]
  try (repeat' split) <;> rfl
@[simp] theorem reviseIdle_unplaced (p : Profile) : (reviseIdle p r).unplaced = r.unplaced := by
  simp only [reviseIdle]
  try (repeat' split) <;> rfl
@[simp] theorem closeBlock_identity : (closeBlock r).identity = r.identity := rfl
@[simp] theorem closeBlock_position : (closeBlock r).position = r.position := rfl
@[simp] theorem closeBlock_profile : (closeBlock r).profile = r.profile := rfl
@[simp] theorem closeBlock_held : (closeBlock r).held = r.held := rfl
@[simp] theorem closeBlock_unplaced : (closeBlock r).unplaced = r.unplaced := rfl
@[simp] theorem settleState_identity (before : List Nat) : (settleState before r).identity = r.identity := by
  simp only [settleState]
  try (repeat' split) <;> rfl
@[simp] theorem settleState_position (before : List Nat) : (settleState before r).position = r.position := by
  simp only [settleState]
  try (repeat' split) <;> rfl
@[simp] theorem settleState_profile (before : List Nat) : (settleState before r).profile = r.profile := by
  simp only [settleState]
  try (repeat' split) <;> rfl
@[simp] theorem settleState_held (before : List Nat) : (settleState before r).held = r.held := by
  simp only [settleState]
  try (repeat' split) <;> rfl
@[simp] theorem settleState_unplaced (before : List Nat) : (settleState before r).unplaced = r.unplaced := by
  simp only [settleState]
  try (repeat' split) <;> rfl
@[simp] theorem noteResult_identity (res : SearchResult) : (noteResult res r).identity = r.identity := rfl
@[simp] theorem noteResult_position (res : SearchResult) : (noteResult res r).position = r.position := rfl
@[simp] theorem noteResult_profile (res : SearchResult) : (noteResult res r).profile = r.profile := rfl
@[simp] theorem noteResult_held (res : SearchResult) : (noteResult res r).held = r.held := rfl
@[simp] theorem noteResult_unplaced (res : SearchResult) : (noteResult res r).unplaced = r.unplaced := rfl
@[simp] theorem clampGains_identity (p : Profile) : (clampGains p r).identity = r.identity := rfl
@[simp] theorem clampGains_position (p : Profile) : (clampGains p r).position = r.position := rfl
@[simp] theorem clampGains_profile (p : Profile) : (clampGains p r).profile = r.profile := rfl
@[simp] theorem clampGains_held (p : Profile) : (clampGains p r).held = r.held := rfl
@[simp] theorem clampGains_unplaced (p : Profile) : (clampGains p r).unplaced = r.unplaced := rfl
@[simp] theorem trimRecord_identity (limit : Nat) : (trimRecord limit r).identity = r.identity := rfl
@[simp] theorem trimRecord_position (limit : Nat) : (trimRecord limit r).position = r.position := rfl
@[simp] theorem trimRecord_profile (limit : Nat) : (trimRecord limit r).profile = r.profile := rfl
@[simp] theorem transparentRecord_identity : (transparentRecord r).identity = r.identity := rfl
@[simp] theorem transparentRecord_position : (transparentRecord r).position = r.position := rfl
@[simp] theorem transparentRecord_profile : (transparentRecord r).profile = r.profile := rfl
@[simp] theorem transparentRecord_held : (transparentRecord r).held = r.held := rfl
@[simp] theorem transparentRecord_unplaced : (transparentRecord r).unplaced = r.unplaced := rfl
@[simp] theorem rebindRecord_identity (pos : Position) : (rebindRecord pos r).identity = r.identity := rfl
@[simp] theorem rebindRecord_profile (pos : Position) : (rebindRecord pos r).profile = r.profile := rfl
@[simp] theorem rebindRecord_held (pos : Position) : (rebindRecord pos r).held = r.held := rfl
@[simp] theorem rebindRecord_unplaced (pos : Position) : (rebindRecord pos r).unplaced = r.unplaced := rfl
@[simp] theorem moveRecord_identity (pos : Position) : (moveRecord pos r).identity = r.identity := by
  simp only [moveRecord, rebindRecord]
  try (repeat' split) <;> rfl
@[simp] theorem moveRecord_profile (pos : Position) : (moveRecord pos r).profile = r.profile := by
  simp only [moveRecord, rebindRecord]
  try (repeat' split) <;> rfl
@[simp] theorem moveRecord_held (pos : Position) : (moveRecord pos r).held = r.held := by
  simp only [moveRecord, rebindRecord]
  try (repeat' split) <;> rfl
@[simp] theorem moveRecord_unplaced (pos : Position) : (moveRecord pos r).unplaced = r.unplaced := by
  simp only [moveRecord, rebindRecord]
  try (repeat' split) <;> rfl
@[simp] theorem clearTallies_identity (c : Bool) : (clearTallies c r).identity = r.identity := by
  simp only [clearTallies]
  try (repeat' split) <;> rfl
@[simp] theorem clearTallies_position (c : Bool) : (clearTallies c r).position = r.position := by
  simp only [clearTallies]
  try (repeat' split) <;> rfl
@[simp] theorem clearTallies_profile (c : Bool) : (clearTallies c r).profile = r.profile := by
  simp only [clearTallies]
  try (repeat' split) <;> rfl
@[simp] theorem clearTallies_held (c : Bool) : (clearTallies c r).held = r.held := by
  simp only [clearTallies]
  try (repeat' split) <;> rfl
@[simp] theorem clearTallies_unplaced (c : Bool) : (clearTallies c r).unplaced = r.unplaced := by
  simp only [clearTallies]
  try (repeat' split) <;> rfl
@[simp] theorem changeLevels_identity (p : Profile) (g : Bool) (a b : PadChange) (f : Option Bool) : (changeLevels p g a b f r).identity = r.identity := rfl
@[simp] theorem changeLevels_position (p : Profile) (g : Bool) (a b : PadChange) (f : Option Bool) : (changeLevels p g a b f r).position = r.position := rfl
@[simp] theorem changeLevels_profile (p : Profile) (g : Bool) (a b : PadChange) (f : Option Bool) : (changeLevels p g a b f r).profile = r.profile := rfl
@[simp] theorem changeLevels_held (p : Profile) (g : Bool) (a b : PadChange) (f : Option Bool) : (changeLevels p g a b f r).held = r.held := rfl
@[simp] theorem changeLevels_unplaced (p : Profile) (g : Bool) (a b : PadChange) (f : Option Bool) : (changeLevels p g a b f r).unplaced = r.unplaced := rfl

end Sys2Proof.Machine
end

