-- ==== Sys2Proof/Laws/Ops.lean ====
section
/-! SUPPORT. One lemma for each shared operation that says once what it can do: which parts of the state it may touch, and
what it leaves as it was. -/

namespace Sys2Proof.Machine

/-! ## Every step has a next state -/

/-- A part runs exactly with its supply and without its reset pin held. -/
theorem running_iff (s : State) : s.running = true ↔ s.powered = true ∧ s.resetHeld = false := by simp [State.running]

/-- A step that needs a running part answers with a next state. -/
theorem whileRunning_next (s : State) (f : State → State) :
    whileRunning s f = .next (if s.running then f s else s) := rfl

/-- A step that needs a running part, on one. -/
theorem whileRunning_of_running {s : State} (h : s.running = true) (f : State → State) :
    whileRunning s f = .next (f s) := by simp [whileRunning, h]

/-- A step that needs a running part, on one that does not run. -/
theorem whileRunning_of_not_running {s : State} (h : s.running = false) (f : State → State) :
    whileRunning s f = .next s := by simp [whileRunning, h]

/-- A command row on a running part. -/
theorem takeCommand_of_running {s : State} (h : s.running = true) (code : Byte) (act : State → Answer) :
    takeCommand code act s = .next (respond code (act s)) := by simp [takeCommand, whileRunning, h]

/-- A refusal carries its status and no results, and leaves the state (R9). -/
@[simp] theorem refuse_state (s : State) (st : Status) : (refuse s st).state = s := rfl
@[simp] theorem refuse_status (s : State) (st : Status) : (refuse s st).status = st := rfl
@[simp] theorem refuse_results (s : State) (st : Status) : (refuse s st).results = [] := rfl
@[simp] theorem report_state (s : State) (rs : List Byte) : (report s rs).state = s := rfl

/-! ## The table -/

/-- The record that the identity index names is in the table and holds the identity. -/
theorem recordOf_some {s : State} {id : Identity} {r : Record} (h : s.recordOf id = some r) :
    r ∈ s.records ∧ r.identity = id := by
  constructor
  · exact List.mem_of_find?_eq_some h
  · simpa using List.find?_some h

/-- The record that the position map names is in the table and holds the position. -/
theorem recordAt_some {s : State} {p : Position} {r : Record} (h : s.recordAt p = some r) :
    r ∈ s.records ∧ r.position = p := by
  constructor
  · exact List.mem_of_find?_eq_some h
  · simpa using List.find?_some h

/-- No record of the table holds an identity that the index does not find. -/
theorem recordOf_none {s : State} {id : Identity} (h : s.recordOf id = none) :
    ∀ r ∈ s.records, r.identity ≠ id := by
  intro r hr he
  have := List.find?_eq_none.mp h r hr
  simp [he] at this

/-- A record of a table without double identities is the one its identity names. -/
theorem recordOf_of_mem {s : State} (hnd : (s.records.map (·.identity)).Nodup) {r : Record} (hr : r ∈ s.records) :
    s.recordOf r.identity = some r := by
  rcases h : s.recordOf r.identity with _ | q
  · exact absurd rfl (recordOf_none h r hr)
  · obtain ⟨hq, hi⟩ := recordOf_some h
    exact congrArg some (List.inj_on_of_nodup_map hnd hq hr hi)

/-- An update that keeps identities keeps the identities of the table. -/
theorem update_identities (s : State) (id : Identity) {f : Record → Record}
    (hf : ∀ r, (f r).identity = r.identity) :
    (s.update id f).records.map (·.identity) = s.records.map (·.identity) := by
  simp only [State.update_records, List.map_map]
  refine List.map_congr_left fun r _ => ?_
  by_cases h : r.identity = id <;> simp [h, hf]

/-- An update that keeps positions keeps the positions of the table. -/
theorem update_positions (s : State) (id : Identity) {f : Record → Record}
    (hf : ∀ r, (f r).position = r.position) :
    (s.update id f).records.map (·.position) = s.records.map (·.position) := by
  simp only [State.update_records, List.map_map]
  refine List.map_congr_left fun r _ => ?_
  by_cases h : r.identity = id <;> simp [h, hf]

/-- The number of records does not change in an update. -/
@[simp] theorem update_length (s : State) (id : Identity) (f : Record → Record) :
    (s.update id f).records.length = s.records.length := by simp

/-- A record after an update is a record from before it, changed exactly when it holds the identity. -/
theorem mem_update {s : State} {id : Identity} {f : Record → Record} {q : Record} (h : q ∈ (s.update id f).records) :
    ∃ r ∈ s.records, q = if r.identity = id then f r else r := by
  simpa [eq_comm] using h

/-- What the identity index finds after an update. -/
theorem recordOf_update (s : State) (id j : Identity) {f : Record → Record}
    (hf : ∀ r, (f r).identity = r.identity) :
    (s.update id f).recordOf j = (s.recordOf j).map fun r => if r.identity = id then f r else r := by
  simp only [State.recordOf, State.update_records, List.find?_map]
  congr 1
  apply congrArg (fun g => List.find? g s.records)
  funext r
  by_cases h : r.identity = id <;> simp [h, hf]

/-- The updated record itself. -/
theorem recordOf_update_self {s : State} {id : Identity} {r : Record} {f : Record → Record}
    (hf : ∀ r, (f r).identity = r.identity) (h : s.recordOf id = some r) :
    (s.update id f).recordOf id = some (f r) := by
  simp [recordOf_update s id id hf, h, (recordOf_some h).2]

/-- Another record than the updated one. -/
theorem recordOf_update_other (s : State) {id j : Identity} (hne : j ≠ id) {f : Record → Record}
    (hf : ∀ r, (f r).identity = r.identity) : (s.update id f).recordOf j = s.recordOf j := by
  rw [recordOf_update s id j hf]
  rcases h : s.recordOf j with _ | r
  · rfl
  · simp [(recordOf_some h).2, hne]

/-! ## What the pool's operations may touch -/

/-- Two states that differ at most in held windows, unplaced offsets, alarms, the free count, the waiting list, the part
tallies and the event summary. -/
structure PoolOnly (s t : State) : Prop where
  powered : t.powered = s.powered
  resetHeld : t.resetHeld = s.resetHeld
  phase : t.phase = s.phase
  blockEndDue : t.blockEndDue = s.blockEndDue
  outputs : t.trunkOut = s.trunkOut ∧ t.exchangeOut = s.exchangeOut ∧ t.nextTrunkOut = s.nextTrunkOut ∧
    t.nextExchangeOut = s.nextExchangeOut
  search : t.priorityLane = s.priorityLane ∧ t.ordinaryLane = s.ordinaryLane ∧ t.slots = s.slots
  settings : t.settings = s.settings
  refCounts : t.refCounts = s.refCounts
  store : t.store = s.store
  mask : t.mask = s.mask
  port : t.port = s.port
  freeIndex : t.freeIndex = s.freeIndex
  pending : t.pending = s.pending
  identities : t.records.map (·.identity) = s.records.map (·.identity)
  positions : t.records.map (·.position) = s.records.map (·.position)
  profiles : t.records.map (·.profile) = s.records.map (·.profile)
  states : t.records.map (·.state) = s.records.map (·.state)

theorem PoolOnly.refl (s : State) : PoolOnly s s := by constructor <;> simp

theorem PoolOnly.trans {s t u : State} (h : PoolOnly s t) (k : PoolOnly t u) : PoolOnly s u where
  powered := k.powered.trans h.powered
  resetHeld := k.resetHeld.trans h.resetHeld
  phase := k.phase.trans h.phase
  blockEndDue := k.blockEndDue.trans h.blockEndDue
  outputs := ⟨k.outputs.1.trans h.outputs.1, k.outputs.2.1.trans h.outputs.2.1,
    k.outputs.2.2.1.trans h.outputs.2.2.1, k.outputs.2.2.2.trans h.outputs.2.2.2⟩
  search := ⟨k.search.1.trans h.search.1, k.search.2.1.trans h.search.2.1, k.search.2.2.trans h.search.2.2⟩
  settings := k.settings.trans h.settings
  refCounts := k.refCounts.trans h.refCounts
  store := k.store.trans h.store
  mask := k.mask.trans h.mask
  port := k.port.trans h.port
  freeIndex := k.freeIndex.trans h.freeIndex
  pending := k.pending.trans h.pending
  identities := k.identities.trans h.identities
  positions := k.positions.trans h.positions
  profiles := k.profiles.trans h.profiles
  states := k.states.trans h.states

/-- An update of windows, unplaced offsets or alarms only. -/
theorem PoolOnly.update (s : State) (id : Identity) {f : Record → Record} (hi : ∀ r, (f r).identity = r.identity)
    (hp : ∀ r, (f r).position = r.position) (hn : ∀ r, (f r).profile = r.profile)
    (hs : ∀ r, (f r).state = r.state) : PoolOnly s (s.update id f) := by
  have key : ∀ {α : Type} (g : Record → α), (∀ r, g (f r) = g r) →
      (s.update id f).records.map g = s.records.map g := by
    intro α g hg
    simp only [State.update_records, List.map_map]
    refine List.map_congr_left fun r _ => ?_
    by_cases h : r.identity = id <;> simp [h, hg]
  exact { powered := rfl, resetHeld := rfl, phase := rfl, blockEndDue := rfl, outputs := ⟨rfl, rfl, rfl, rfl⟩, search := ⟨rfl, rfl, rfl⟩,
          settings := rfl, refCounts := rfl, store := rfl, mask := rfl, port := rfl, freeIndex := rfl, pending := rfl,
          identities := key _ hi, positions := key _ hp, profiles := key _ hn, states := key _ hs }

/-- The free count, the waiting list, the part tallies and the summary are the pool's to change. -/
theorem PoolOnly.counts {s t : State} (h : PoolOnly s t) (free : Nat) (waiting : List Identity) (part : PartTallies)
    (summary : EventSet) : PoolOnly s { t with free := free, waiting := waiting, part := part, summary := summary } :=
  { h with }

theorem grantHead_poolOnly (s : State) (id : Identity) (o : Nat) (more : List Nat) (behind : List Identity) :
    PoolOnly s (s.grantHead id o more behind) :=
  (PoolOnly.update s id (f := fun r => { r with held := insertWindow (zeroWindow o) r.held, unplaced := more })
    (fun _ => rfl) (fun _ => rfl) (fun _ => rfl) (fun _ => rfl)).counts _ _ _ _

/-- Grants touch the pool and the windows of waiting records, and nothing else (R125). -/
theorem grantUpTo_poolOnly (n : Nat) (s : State) : PoolOnly s (s.grantUpTo n) := by
  induction n generalizing s with
  | zero => exact PoolOnly.refl s
  | succ n ih =>
    unfold State.grantUpTo
    split
    · exact PoolOnly.refl s
    · split
      · exact (grantHead_poolOnly s _ _ _ _).trans (ih _)
      · exact ((PoolOnly.refl s).counts s.free _ s.part s.summary).trans (ih _)

theorem grantAll_poolOnly (s : State) : PoolOnly s s.grantAll := grantUpTo_poolOnly _ s

/-- Grants give a record windows at its strongest unplaced offsets, in turn, and change nothing else of it (R124,
R125). -/
theorem grantUpTo_records (n : Nat) (s : State) (hnd : (s.records.map (·.identity)).Nodup) {r : Record}
    (hr : r ∈ s.records) :
    ∃ k, { r with
      held := (r.unplaced.take k).foldl (fun held offset => insertWindow (zeroWindow offset) held) r.held
      unplaced := r.unplaced.drop k } ∈ (s.grantUpTo n).records := by
  induction n generalizing s r with
  | zero => exact ⟨0, hr⟩
  | succ n ih =>
    unfold State.grantUpTo
    split
    · exact ⟨0, hr⟩
    · rename_i id behind _
      split
      · rename_i offset more hu
        have hnd' : ((s.grantHead id offset more behind).records.map (·.identity)).Nodup := by
          rw [show (s.grantHead id offset more behind).records.map (·.identity) = s.records.map (·.identity) from
            update_identities s id (fun _ => rfl)]
          exact hnd
        by_cases hid : r.identity = id
        · rw [← hid, recordOf_of_mem hnd hr] at hu
          obtain ⟨k, hk⟩ := ih (s.grantHead id offset more behind) hnd'
            (r := { r with held := insertWindow (zeroWindow offset) r.held, unplaced := more })
            (List.mem_map.2 ⟨r, hr, by simp [hid]⟩)
          refine ⟨k + 1, ?_⟩
          simp only [Option.map_some, Option.some.injEq] at hu
          simpa [hu] using hk
        · exact ih _ hnd' (List.mem_map.2 ⟨r, hr, by simp [hid]⟩)
      · exact ih { s with waiting := behind } hnd hr

theorem grantAll_records (s : State) (hnd : (s.records.map (·.identity)).Nodup) {r : Record} (hr : r ∈ s.records) :
    ∃ k, { r with
      held := (r.unplaced.take k).foldl (fun held offset => insertWindow (zeroWindow offset) held) r.held
      unplaced := r.unplaced.drop k } ∈ s.grantAll.records := grantUpTo_records _ s hnd hr

/-- An alarm touches the record's alarm set and the summary (R8). -/
theorem raiseAlarm_poolOnly (s : State) (id : Identity) (k : Alarm) : PoolOnly s (s.raiseAlarm id k) := by
  unfold State.raiseAlarm
  split
  · split
    · exact PoolOnly.refl s
    · exact (PoolOnly.update s id (f := fun r => { r with alarms := r.alarms ||| k.flag }) (fun _ => rfl)
        (fun _ => rfl) (fun _ => rfl) (fun _ => rfl)).counts s.free s.waiting s.part _
  · exact PoolOnly.refl s

theorem returnWindows_poolOnly (s : State) (id : Identity) : PoolOnly s (s.returnWindows id) := by
  unfold State.returnWindows
  split
  · exact (PoolOnly.update s id (f := fun r => { r with held := [], unplaced := [] }) (fun _ => rfl) (fun _ => rfl)
      (fun _ => rfl) (fun _ => rfl)).counts _ _ s.part s.summary
  · exact PoolOnly.refl s

/-- A release of a record of the table is its windows returned, its place in the waiting list given up, and the grants
(R123). -/
theorem releaseAll_of_some {s : State} {id : Identity} {r : Record} (h : s.recordOf id = some r) :
    s.releaseAll id = State.grantAll
      { s with
        records := s.records.map fun q => if q.identity = id then { q with held := [], unplaced := [] } else q
        free := s.free + r.held.length
        waiting := s.waiting.filter (· != id) } := by
  simp [State.releaseAll, State.returnWindows, State.update, State.stopWaiting, h]

theorem releaseAll_of_none {s : State} {id : Identity} (h : s.recordOf id = none) :
    s.releaseAll id = s.grantAll := by
  simp [State.releaseAll, State.returnWindows, h]

/-- A release with its grants (R123). -/
theorem releaseAll_poolOnly (s : State) (id : Identity) : PoolOnly s (s.releaseAll id) :=
  (returnWindows_poolOnly s id).trans (grantAll_poolOnly _)

theorem waitFor_poolOnly (s : State) (id : Identity) (offsets : List Nat) : PoolOnly s (s.waitFor id offsets) :=
  ((PoolOnly.update s id (f := fun r => { r with unplaced := offsets }) (fun _ => rfl) (fun _ => rfl) (fun _ => rfl)
    (fun _ => rfl)).counts s.free _ s.part s.summary).trans (raiseAlarm_poolOnly _ id .windowShort)

/-- The provisional claim (R120). -/
theorem claimProvisional_poolOnly (s : State) (id : Identity) (o : Nat) : PoolOnly s (s.claimProvisional id o) := by
  unfold State.claimProvisional
  split
  · exact waitFor_poolOnly s id [o]
  · exact (PoolOnly.update s id (f := fun r => { r with held := [zeroWindow o] }) (fun _ => rfl) (fun _ => rfl)
      (fun _ => rfl) (fun _ => rfl)).counts _ s.waiting s.part s.summary

/-! ## What the search unit's operations may touch -/

/-- The search unit's operations on requests touch the lanes and slots only. -/
theorem fillSlots_shape (n : Nat) (s : State) :
    ∃ pl ol sl, s.fillSlots n = { s with priorityLane := pl, ordinaryLane := ol, slots := sl } := by
  induction n generalizing s with
  | zero => exact ⟨_, _, _, rfl⟩
  | succ n ih =>
    unfold State.fillSlots
    split
    · obtain ⟨a, b, c, h⟩ := ih { s with priorityLane := _, slots := s.slots ++ [freshSlot _] }
      exact ⟨a, b, c, h⟩
    · obtain ⟨a, b, c, h⟩ := ih { s with ordinaryLane := _, slots := s.slots ++ [freshSlot _] }
      exact ⟨a, b, c, h⟩
    · exact ⟨_, _, _, rfl⟩

theorem arbitrate_shape (s : State) :
    ∃ pl ol sl, s.arbitrate = { s with priorityLane := pl, ordinaryLane := ol, slots := sl } := fillSlots_shape _ s

theorem request_shape (s : State) (l : Lane) (id : Identity) :
    ∃ pl ol sl, s.request l id = { s with priorityLane := pl, ordinaryLane := ol, slots := sl } := by
  unfold State.request
  split
  · exact arbitrate_shape _
  · exact arbitrate_shape _
  · exact arbitrate_shape _
  · exact ⟨_, _, _, rfl⟩

theorem cancelSearch_shape (s : State) (id : Identity) :
    ∃ pl ol sl, s.cancelSearch id = { s with priorityLane := pl, ordinaryLane := ol, slots := sl } :=
  arbitrate_shape _

/-- With four slots occupied the arbiter does nothing (R97). -/
theorem arbitrate_of_full {s : State} (h : 4 ≤ s.slots.length) : s.arbitrate = s := by
  have h0 : 4 - s.slots.length = 0 := by omega
  simp [State.arbitrate, h0, State.fillSlots]

/-- With both lanes empty the arbiter does nothing (R97). -/
theorem fillSlots_of_empty {s : State} (n : Nat) (hp : s.priorityLane = []) (ho : s.ordinaryLane = []) :
    s.fillSlots n = s := by
  cases n with
  | zero => rfl
  | succ n => simp [State.fillSlots, hp, ho]

/-- The supervisor's request (R87). -/
theorem supervisorRequest_shape (s : State) (id : Identity) :
    ∃ pl ol sl, s.supervisorRequest id = { s with priorityLane := pl, ordinaryLane := ol, slots := sl } := by
  unfold State.supervisorRequest
  split
  · split
    · exact request_shape _ _ _
    · exact ⟨_, _, _, rfl⟩
  · exact ⟨_, _, _, rfl⟩

/-! ## Arithmetic -/

theorem saturateInt_bounds (v : Int) : -32768 ≤ saturateInt v ∧ saturateInt v ≤ 32767 := by
  unfold saturateInt; split
  · omega
  · split <;> omega

/-- The sample a saturated value becomes has that value (R37). -/
theorem saturate_toInt (v : Int) : (saturate v).toInt = saturateInt v := by
  have h := saturateInt_bounds v
  unfold saturate
  rw [BitVec.toInt_ofInt]
  exact Int.bmod_eq_of_le (by omega) (by omega)

theorem countUp_le (n : Nat) : countUp n ≤ 65535 := Nat.min_le_left _ _

theorem clampNat_bounds {lo hi : Nat} (h : lo ≤ hi) (v : Nat) : lo ≤ clampNat lo hi v ∧ clampNat lo hi v ≤ hi := by
  unfold clampNat; split
  · omega
  · split <;> omega

/-- A value within the range is not changed by the clamp (R37). -/
theorem clampNat_of_within {lo hi v : Nat} (h1 : lo ≤ v) (h2 : v ≤ hi) : clampNat lo hi v = v := by
  unfold clampNat; split
  · omega
  · split <;> omega

/-! ## The bytes heard -/

/-- Bytes heard in two rows are heard as in one (R177). -/
@[simp] theorem State.hearAll_append (s : State) (a b : List Byte) :
    s.hearAll (a ++ b) = (s.hearAll a).hearAll b := List.foldl_append

/-- A hunting port passes over a byte that is no sync byte (R177). -/
theorem State.hear_of_hunting {s : State} (h : s.port.hearing = .hunting) {b : Byte} (hb : b ≠ syncByte) :
    s.hear b = s := by simp [State.hear, h, hb]

/-! ## The frame of one record -/

/-- The frame of a record touches its history, talk state, near-hold counter, held windows, noise register and block
working values, and nothing of a LAPSED one (R35, R36). -/
theorem frameOf_record (p : Profile) (r : Record) (tin xin : Sample) :
    (frameOf p r tin xin).record =
      if r.state = .lapsed then r else recordAfterFrame r (frameStages p r tin xin) tin xin := by
  unfold frameOf; split <;> rfl

end Sys2Proof.Machine
end

