-- ==== Sys2Proof/Tests/Slice0.lean ====
section
/-! SUPPORT. The model's own tests: ill-formed terms, the manual's worked cases, command frames written out byte by byte,
and a witness for the hypotheses of every statement (boundary values of its clauses among them). Expected values come
from the manual's worked cases and tables, or from hand calculation by its rules. -/

namespace Sys2Proof.Tests

set_option Elab.async false

open Sys2Proof Sys2Proof.Machine

/-! ## Small states -/

/-- The next state of a step, and the state itself where there is none. -/
def after (i : Instr) (s : State) : State :=
  match exec i s with
  | .next t => t
  | .fault _ => s
  | .refused _ => s

/-- The status byte of the reply in progress (byte 5, R180), and the result bytes. -/
def statusOf (s : State) : Option Byte := s.port.reply.bind fun f => f[4]?
def resultsOf (s : State) : List Byte := ((s.port.reply.getD []).drop 5).dropLast

/-- The part after reset with some records, their windows taken from the pool and their profiles counted. -/
def given (records : List Record) : State :=
  { State.reset with
    records := records
    free := 144 - (records.map fun r => r.held.length).sum
    refCounts := Vector.ofFn fun n => records.countP fun r => r.profile == n }

/-- A SETTLING record of identity 100 at position 5 with one window. -/
def settler : Record := { newRecord 100 5 0 factoryProfile .cancel with held := [zeroWindow 0] }

/-- The same record CONVERGED, TRANSPARENT, in BYPASS and LAPSED. -/
def steady : Record := { settler with state := .converged }
def clear : Record := { settler with state := .transparent, held := [] }
def bypassed : Record := { settler with state := .bypass, resume := some .settling }
def gone : Record := { settler with state := .lapsed, held := [] }

/-- The whole block of a record whose every frame was FAR and supervised. -/
def farBlock : BlockValues := { live := 64, farFrames := 64, supervised := 64 }

/-- A highway frame with one sample that is not 0. -/
def timeslot (p : Nat) (v : Int) : List Sample := (List.replicate 128 0).set p (BitVec.ofInt 16 v)

/-- A state whose phase-63 frame has been worked and whose block end is still to come. -/
def atBlockEnd (records : List Record) : State := { given records with phase := 63, blockEndDue := true }

/-- A search of record 100 that is about to complete, over some correlations. -/
def searching (q e sx : Nat) (correlation : List Int) (r : Record) : State :=
  { given [r] with
    slots :=
      [{ identity := 100, correlation := correlation, referenceSum := sx, qualifying := q, elapsed := e }] }

/-- Correlations of magnitude 0 but for some lags (the worked placements of section 6.4). -/
def peaks (at_ : List (Nat × Int)) : List Int := at_.foldl (fun c p => c.set p.1 p.2) (List.replicate 1024 0)

/-! ## Ill-formed terms are refused -/

theorem test_short_frame_is_ill_formed : WellFormed (.frameSync (List.replicate 127 0) silentHighway) = false := by
  decide +kernel

theorem test_long_exchange_frame_is_ill_formed :
    WellFormed (.frameSync silentHighway (List.replicate 129 0)) = false := by decide +kernel

theorem test_whole_frame_is_well_formed : WellFormed (.frameSync silentHighway silentHighway) = true := by
  decide +kernel

theorem test_short_profile_is_ill_formed : WellFormed (.profileWrite 0 (List.replicate 35 0)) = false := by
  decide +kernel

theorem test_whole_profile_is_well_formed : WellFormed (.profileWrite 0 (profileBytes factoryProfile)) = true := by
  decide +kernel

/-! ## Command frames, written out from R10, R176 and R180 -/

/-- The worked FIND of section 12.1: unit 3, position 38, check C3h. -/
theorem test_find_frame : commandFrame 3 (.find 38) = some [0xA5, 0x03, 0x02, 0x12, 0x26, 0xC3] := by decide +kernel

/-- ATTACH 01h: identity 0BFFh, position 26h, profile not given, mode CANCEL. -/
theorem test_decode_attach :
    decodeCommand 0x01 [0x0B, 0xFF, 0x26, 0xFF, 0x00] = .command (.attach 0x0BFF 38 0xFF 0) := by decide +kernel

/-- MODIFY 03h: mode, freeze and profile, then the two pads and the gain reset. -/
theorem test_decode_modify :
    decodeCommand 0x03 [0x00, 0x64, 0xFF, 0x01, 0x07, 0x0B, 0x50, 0xFF, 0xFF, 0x01] =
      .command (.modify 100 0xFF 1 7 2896 0xFFFF 1) := by decide +kernel

/-- LIST 13h: state set, alarm set, start identity. -/
theorem test_decode_list : decodeCommand 0x13 [0x10, 0x00, 0x01, 0x02] = .command (.list 0x10 0 0x0102) := by
  decide +kernel

/-- RULE_WRITE 23h, and STORE 28h with a parameter too many, and a code not in the list. -/
theorem test_decode_rule_write :
    decodeCommand 0x23 [3, 1, 0x00, 0x60, 0x00, 0x04, 4, 0] = .command (.ruleWrite 3 1 0x60 0x04 4 0) ∧
    decodeCommand 0x28 [0] = .badLength ∧ decodeCommand 0x07 [] = .unknownCommand := by decide +kernel

/-- TALLY 33h. -/
theorem test_decode_tally : decodeCommand 0x33 [0x01, 0x00, 0x00, 0x01] = .command (.tally 1 0 1) := by decide +kernel

/-- The opcode table gives no bits, so no word spells a command. -/
theorem test_no_table_word : decodeTableWord 32 0xA5 = none ∧ State.reset.withFetchWord 32 0xA5 = State.reset := by
  decide +kernel

/-! ## Arithmetic (R37 to R39, the worked rounding cases) -/

theorem test_round_cases :
    scaleQ 1000 2896 = 707 ∧ scaleQ (-1000) 2896 = -707 ∧ scaleQ 1 6144 = 2 ∧ scaleQ (-1) 6144 = -1 ∧
    scaleQ 30000 8192 = 32767 ∧ scaleQ (-32768) 4096 = -32768 := by decide +kernel

theorem test_shift_cases : shiftRight8 300 = 1 ∧ shiftRight8 (-1) = -1 ∧ shiftRight8 (-256) = -1 ∧
    shiftRight8 (-300) = -2 := by decide +kernel

theorem test_truncate_cases : truncate (-73728000) 2145536 = -34 ∧ truncate 49152000 2145536 = 22 := by decide +kernel

/-! ## FRAME_SYNC: the worked frame of sections 2.4, 3.2 and 3.4 -/

def workedProfile : Profile := { factoryProfile with padIn := 2896, padOut := 3649, suppressorOn := false }

def workedRecord : Record :=
  { steady with
    gainIn := 4500
    gainOut := 5000
    held := [{ offset := 296, coefficients := (-8192) :: 4096 :: List.replicate 62 0 }]
    history := ((List.replicate 1024 0).set 295 1200).set 296 (-800) }

def workedState : State := (given [workedRecord]).setProfile 0 workedProfile

theorem test_worked_frame_outputs :
    let t := after (.frameSync (timeslot 5 1000) (timeslot 5 (-430))) workedState
    t.nextExchangeOut.getD 5 0 = 777 ∧ t.nextTrunkOut.getD 5 0 = -33 := by decide +kernel

theorem test_worked_frame_adapts :
    let t := after (.frameSync (timeslot 5 1000) (timeslot 5 (-430))) workedState
    (t.recordOf 100).map (fun r => (r.talk, r.held.map fun w => w.coefficients.take 3)) =
      some (.far, [[-8226, 4118, 0]]) := by decide +kernel

/-- The five frames of fill of section 8.2. -/
theorem test_comfort_fill_sequence :
    stepNoise 0xA8F1 = 0xE078 ∧ stepNoise 0x1C0F = 0xBA07 ∧ noiseSeed 1040 = 0xA8F1 ∧ noiseSeed 0xACE1 = 1 ∧
    comfortFill 0xE078 400 = -197 ∧ comfortFill 0x703C 400 = 701 ∧ comfortFill 0xBA07 400 = -437 := by decide +kernel

/-- The worked qualifying frame of section 6.3. -/
theorem test_search_accumulates :
    let x : List Sample := (((List.replicate 1024 0).set 0 1500).set 300 (-2000)).set 301 (-100)
    let sl := accumulateSlot (freshSlot 100) 3000 (x.set 302 100) .far
    sl.referenceSum = 25 ∧ sl.correlation.getD 0 0 = 55 ∧ sl.correlation.getD 300 0 = -88 ∧
      sl.correlation.getD 301 0 = -11 ∧ sl.correlation.getD 302 0 = 0 := by decide +kernel

/-! ## Searches: the worked placements of section 6.4 -/

def worked1 : List Int :=
  peaks [(312, 40000), (322, -12000), (365, 9000), (870, 6000), (70, 4000)]

theorem test_worked_placement : searchPlacement 3 worked1 = [296, 360, 854] := by decide +kernel

theorem test_edge_placement :
    searchPlacement 3 (peaks [(1010, 20000), (958, 9000), (905, 7000), (5, 6000), (170, 2600)]) = [960, 896, 0] := by
  decide +kernel

/-- SEARCH_COMPLETE installs the worked placement in a CONVERGED record, which settles (R121, R122). -/
theorem test_search_complete_installs :
    let t := after (.searchComplete 100) (searching 2048 9000 600000 worked1 steady)
    (t.recordOf 100).map (fun r => (r.state, r.held.map (·.offset), r.lastResult)) =
      some (.settling, [296, 360, 854], .placed) := by decide +kernel

/-- Smax × 32 < Sx: NO_ECHO, the window returned and the state kept (R105). -/
theorem test_search_no_echo :
    let t := after (.searchComplete 100) (searching 2048 9000 1280001 worked1 steady)
    (t.recordOf 100).map (fun r => (r.state, r.held, r.lastResult)) = some (.converged, [], .noEcho) ∧
      t.free = 144 := by decide +kernel

theorem test_search_timeout :
    let t := after (.searchTimeout 100) (searching 2047 16000 0 worked1 steady)
    (t.recordOf 100).map (·.lastResult) = some .inconclusive ∧ t.part.inconclusiveSearches = 1 ∧ t.slots = [] := by
  decide +kernel

/-! ## BLOCK_END -/

/-- The worked background of section 8.4: 50 then 93, and 131 to 128. -/
theorem test_background_steps :
    (reviseBackground { settler with block := { idleFrames := 64, sumXin := 400 * 64 }, background := 50 }).background
      = 93 ∧
    (reviseBackground { settler with block := { idleFrames := 64, sumXin := 100 * 64 }, background := 131 }).background
      = 128 := by decide +kernel

/-- The worked level sequence of section 9.9. -/
theorem test_level_steps :
    stepGain factoryProfile 2500 4096 = 3840 ∧ stepGain factoryProfile 2344 3840 = 3840 ∧
    stepGain factoryProfile 300 3840 = 3900 ∧ stepGain factoryProfile 3000 2100 = 2048 ∧
    stepGain factoryProfile 500 8150 = 8192 := by decide +kernel

/-- The fourth passing block promotes (R84), and the block counts as converged (R89). -/
theorem test_block_end_promotes :
    let t := after .blockEnd (atBlockEnd [{ settler with passCount := 3, block := farBlock }])
    (t.recordOf 100).map (fun r => (r.state, r.passCount, r.tallies.convergedBlocks)) = some (.converged, 0, 1) := by
  decide +kernel

/-- Ee > 2 × Ey above the floor: divergence, with its alarm, its tally and a priority search (R83). -/
theorem test_block_end_diverges :
    let b := { farBlock with energyIn := 600000, energyResidual := 1200001, energyOut := 2400000 }
    let t := after .blockEnd (atBlockEnd [{ steady with block := b }])
    (t.recordOf 100).map (fun r => (r.state, r.alarms, r.tallies.divergences)) = some (.settling, 0x1, 1) ∧
      t.summary &&& 0x10 = 0x10 ∧ t.searchStatus 100 = .running := by decide +kernel

/-! ## The transitions as steps -/

theorem test_promotion : ((after (.promotion 100) (given [{ settler with passCount := 4 }])).recordOf 100).map
    (fun r => (r.state, r.passCount)) = some (.converged, 0) := by decide +kernel

theorem test_path_change : ((after (.pathChange 100) (given [{ steady with failCount := 8 }])).recordOf 100).map
    (fun r => (r.state, r.failCount, r.tallies.pathChanges)) = some (.settling, 0, 1) := by decide +kernel

theorem test_entry_to_bypass : ((after (.entryToBypass 100) (given [{ steady with toneCount := 50 }])).recordOf 100).map
    (fun r => (r.state, r.resume, r.toneCount)) = some (.bypass, some .converged, 50) := by decide +kernel

theorem test_return_from_bypass :
    let t := after (.returnFromBypass 100) (given [{ bypassed with quietCount := 32, toneCount := 50 }])
    (t.recordOf 100).map (fun r => (r.state, r.resume, r.toneCount)) = some (.settling, none, 0) ∧
      t.searchStatus 100 = .running := by decide +kernel

def lapsing : State :=
  (given [{ settler with idleCount := 125, block := { idleRose := true } }]).setProfile 0
    { factoryProfile with idleLimit := 1 }

theorem test_idle_lapse :
    let t := after (.idleLapse 100) lapsing
    (t.recordOf 100).map (fun r => (r.state, r.held)) = some (.lapsed, []) ∧ t.free = 144 ∧
      t.summary &&& 0x20 = 0x20 := by decide +kernel

/-! ## Record commands -/

/-- The first rule of section 11.3's shelf that is enabled and matches acts, not the disabled rule 0. -/
theorem test_attach_by_rule :
    let rules := { enabled := true, base := 0x0060, mask := 0x0004, profile := 4, mode := Mode.cancel }
    let s := (State.reset.setRule 0 { factoryRule with mask := 0xFFFF, profile := 7 }).setRule 3 rules
    ((after (.attach 0x0064 5 0xFF 0xFF) s).recordOf 0x0064).map (fun r => (r.profile, r.state)) =
        some (4, .settling) ∧
      ((after (.attach 0x0062 5 0xFF 0xFF) s).recordOf 0x0062).map (fun r => r.profile) = some 0 := by
  decide +kernel

/-- No window free: WINDOW_SHORT in the reply and the alarm set, the offset unplaced, the record waiting (R15). -/
theorem test_attach_short :
    let t := after (.attach 7 127 0 0) { State.reset with free := 0 }
    (t.recordOf 7).map (fun r => (r.held, r.unplaced, r.alarms)) = some ([], [0], 0x8) ∧ t.waiting = [7] ∧
      resultsOf t = [0x04, 0x00, 0x00] := by decide +kernel

theorem test_detach_grants :
    let s := { given [{ settler with held := [zeroWindow 9] }, { clear with
      identity := 200, position := 6, state := .settling, unplaced := [70] }] with free := 0, waiting := [200] }
    let t := after (.detach 100) s
    (t.recordOf 200).map (fun r => (r.held.map (·.offset), r.unplaced)) = some ([70], []) ∧ t.part.grants = 1 ∧
      t.recordOf 100 = none := by decide +kernel

/-- A trim gives up the weakest unplaced offset first, then the largest window (R19). -/
theorem test_modify_trims :
    let s := (given [{ settler with held := [zeroWindow 0, zeroWindow 100], unplaced := [300] }]).setProfile 2
      { factoryProfile with windowLimit := 1 }
    let t := after (.modify 100 0xFF 0xFF 2 0xFFFF 0xFFFF 0) { s with waiting := [100] }
    (t.recordOf 100).map (fun r => (r.held.map (·.offset), r.unplaced, r.profile)) = some ([0], [], 2) ∧
      t.waiting = [] := by decide +kernel

/-- The worked MODIFY of section 9.9: 2048 and 5000 under 2560..4608 with a gain reset. -/
theorem test_modify_gains :
    let s := (given [{ settler with gainIn := 2048, gainOut := 5000 }]).setProfile 2
      { factoryProfile with gmin := 2560, gmax := 4608 }
    ((after (.modify 100 0xFF 0xFF 2 0xFFFF 0xFFFF 0) s).recordOf 100).map (fun r => (r.gainIn, r.gainOut)) =
        some (2560, 4608) ∧
      ((after (.modify 100 0xFF 0xFF 2 0xFFFF 0xFFFF 1) s).recordOf 100).map (fun r => (r.gainIn, r.gainOut)) =
        some (4096, 4096) := by decide +kernel

theorem test_rebind_settles :
    ((after (.rebind 100 127) (given [{ steady with passCount := 4 }])).recordOf 100).map
      (fun r => (r.position, r.state, r.passCount)) = some (127, .settling, 0) ∧
    statusOf (after (.rebind 100 5) (given [steady])) = some 0x12 := by decide +kernel

theorem test_move_line :
    let t := after (.moveLine 0 3) (given [settler, { gone with identity := 200, position := 31 }])
    (t.records.map (·.position)) = [101, 127] ∧ resultsOf t = [2] := by decide +kernel

theorem test_research_merges :
    let s := after (.research 100 0) (given [settler])
    resultsOf s = [0x00, 0x03] ∧ resultsOf (after (.research 100 1) s) = [0x08, 0x03] := by decide +kernel

theorem test_look_is_60_bytes :
    (resultsOf (after (.look 100) (given [settler]))).length = 60 ∧
    (resultsOf (after (.look 100) (given [settler]))).take 10 = [0, 100, 5, 0, 0, 0xFF, 0, 1, 0, 0] := by
  decide +kernel

theorem test_look_window_index :
    (resultsOf (after (.lookWindow 100 0) workedState)).take 6 = [0x01, 0x28, 0xE0, 0x00, 0x10, 0x00] ∧
    statusOf (after (.lookWindow 100 1) workedState) = some 0x16 := by decide +kernel

/-- The worked reply of section 12.1. -/
theorem test_find_reply :
    let s := { given [{ settler with identity := 3071, position := 38 }] with
      port := { State.reset.port with address := 3 } }
    (after (.find 38) s).port.reply = some [0xA5, 0x83, 0x05, 0x12, 0x00, 0x0B, 0xFF, 0x00, 0x5C] := by decide +kernel

theorem test_list_filters :
    resultsOf (after (.list 0x10 0 0) (given [settler, { gone with identity := 77, position := 9 }])) =
      [0x00, 0x01, 0x00, 0x4D] := by decide +kernel

theorem test_ack_alarms :
    resultsOf (after (.ackAlarms 100 0x06) (given [{ settler with alarms := 0x5 }])) = [0x01] := by decide +kernel

/-! ## Settings, events and tallies -/

/-- The worked clamped write of section 11.1. -/
theorem test_profile_write_clamps :
    let written := { factoryProfile with
      stepExponent := 0, windowLimit := 5, bandLow := 2600, gmin := 9000, idleLimit := 900 }
    let t := after (.profileWrite 6 (profileBytes written)) State.reset
    statusOf t = some 0x02 ∧ t.settings.profiles.get 6 = { factoryProfile with
      stepExponent := 1, windowLimit := 3, bandLow := 2600, bandHigh := 2600, gmin := 8192, idleLimit := 600 } := by
  decide +kernel

/-- The places of the layout (R164): bytes 2..3, 12, 17..18 and 36. -/
theorem test_profile_layout_places :
    let layout := profileBytes { factoryProfile with provisionalOffset := 0x0123, padIn := 0x1234 }
    layout.getD 1 0 = 0x01 ∧ layout.getD 2 0 = 0x23 ∧ layout.getD 11 0 = 1 ∧ layout.getD 16 0 = 0x12 ∧
      layout.getD 17 0 = 0x34 ∧ layout.getD 35 0 = 2 := by decide +kernel

theorem test_profile_read_reports_count :
    (resultsOf (after (.profileRead 0) (given [settler]))).take 3 = [0, 1, 1] := by decide +kernel

theorem test_rule_write_needs_disabling :
    let s := State.reset.setRule 1 { factoryRule with enabled := true, base := 0x0C00, mask := 0x00FF }
    statusOf (after (.ruleWrite 1 1 0x0C00 0x00FF 0 0) s) = some 0x1A ∧
      statusOf (after (.ruleWrite 1 0 0x0C00 0x00FF 0 0) s) = some 0x00 := by decide +kernel

theorem test_rule_enable : ((after (.ruleEnable 7 1) State.reset).settings.rules.get 7).enabled = true := by
  decide +kernel

theorem test_rule_read : resultsOf (after (.ruleRead 2) State.reset) = [2, 0, 0, 0, 0, 0, 0, 0] := by decide +kernel

theorem test_store_then_complete :
    let s := after .store State.reset
    let t := after (.storeComplete true) s
    statusOf s = some 0x01 ∧ s.store.wear = 1 ∧ t.store.valid = true ∧ t.summary = 0x07 := by decide +kernel

theorem test_store_worn :
    statusOf (after .store { State.reset with store := { State.reset.store with wear := 2000 } }) = some 0x1D := by
  decide +kernel

/-- The model's choice for a STORE while the 2000th is in flight, and R172's answer after it has completed. -/
theorem test_store_during_the_last :
    let s := after .store { State.reset with store := { State.reset.store with wear := 1999 } }
    s.store.wear = 2000 ∧ statusOf (after .store s) = some 0x1C ∧
      statusOf (after .store (after (.storeComplete true) s)) = some 0x1D := by decide +kernel

theorem test_load_factory : resultsOf (after .load State.reset) = [0x01] ∧
    statusOf (after .load (given [gone])) = some 0x1B := by decide +kernel

/-- A reset during a STORE finds the check invalid (R173, R175). -/
theorem test_reset_cuts_store :
    let t := after (.reset .released { address := 14, rate := true }) (after .store State.reset)
    t.summary = 0x03 ∧ t.store.valid = false ∧ t.store.wear = 1 ∧ t.port.address = 14 := by decide +kernel

/-- While the reset pin is held the attention line is not driven and no row is answered; its release samples the pins
(R183, R34). -/
theorem test_reset_held :
    let s := after .ident State.reset
    let held := after (.reset .held { address := 14, rate := true }) s
    let up := after (.reset .released { address := 14, rate := true }) held
    s.attentionDriven = true ∧ held.attentionDriven = false ∧ held.summary = 0x03 ∧ held.port.address = 0 ∧
      after .ident held = held ∧ up.attentionDriven = true ∧ up.port.address = 14 := by decide +kernel

/-- The first frame after reset has phase 0, and no block end is due after it (R34). -/
theorem test_first_frame_has_phase_0 :
    let t := after (.frameSync silentHighway silentHighway) State.reset
    t.phase = 0 ∧ t.blockEndDue = false := by decide +kernel

theorem test_power_loss_then_nothing :
    let t := after .powerLoss State.reset
    t.powered = false ∧ after .ident t = t := by decide +kernel

theorem test_events_and_mask :
    resultsOf (after .events State.reset) = [0x03, 0xFF] ∧ resultsOf (after (.ackEvents 0x02) State.reset) = [0x01] ∧
      (after (.setMask 0xFC) State.reset).attentionDriven = false := by decide +kernel

theorem test_tally_clears :
    let s := given [{ settler with tallies := { clipBlocks := 0x0102 } }]
    resultsOf (after (.tally 0 100 1) s) = [0, 0, 0, 0, 0, 0, 1, 2, 0, 0, 0, 0, 0, 0] ∧
      ((after (.tally 0 100 1) s).recordOf 100).map (·.tallies) = some {} := by decide +kernel

theorem test_ident :
    resultsOf (after .ident (given [settler])) = [0x96, 0x01, 0, 0, 0, 143, 1, 0, 0] := by decide +kernel

theorem test_restart :
    let t := after .restart (given [settler])
    t.records = [] ∧ t.free = 144 ∧ t.summary = 0x01 := by decide +kernel

/-! ## The line -/

/-- The worked exchange of section 12.1, as the bytes are heard, and the same frame damaged. -/
theorem test_frame_received :
    let s := { State.reset with port := { State.reset.port with address := 3 } }
    statusOf (after (.commandFrameReceived [0xA5, 0x03, 0x02, 0x12, 0x26, 0xC3]) s) = some 0x10 ∧
      (after (.commandFrameReceived [0xA5, 0x03, 0x02, 0x12, 0x27, 0xC3]) s).part.lineFaults = 1 := by decide +kernel

theorem test_gap_byte_is_examined :
    let t := after (.interByteGap [0xA5, 0x03] 0xA5) State.reset
    t.part.lineFaults = 1 ∧ t.port.hearing = .assembling [0xA5] := by decide +kernel

theorem test_character_fault :
    (after (.characterFault [0xA5]) State.reset).part.lineFaults = 1 ∧
      after (.characterFault [0x01]) State.reset = State.reset := by decide +kernel

theorem test_overrun_then_reply_sent :
    let s := after .ident State.reset
    let t := after (.overrun [0x00, 0x01, 0x34, 0xCB]) s
    t.part.overruns = 1 ∧ t.part.lineFaults = 0 ∧ (after .replySent t).port.reply = none := by decide +kernel

theorem test_step_takes_the_front :
    let s := { State.reset with pending := [.setMask 0x0F, .ident] }
    (match step s with | .next t => (t.mask, t.pending) | _ => (0, [])) = (0x0F, [.ident]) := by decide +kernel

/-! ## Witnesses: states and operands that meet the hypotheses of the statements -/

/-- A sound state with records in several states, one waiting, one searched and one LAPSED. -/
def busyState : State :=
  { given
      [settler, { bypassed with identity := 200, position := 6 }, { clear with identity := 300, position := 31 },
        { gone with identity := 400, position := 127 }] with
    phase := 62
    slots := [freshSlot 100] }

/-- The conditions on a record at a frame that the frame statements share. -/
abbrev FrameReady (s : State) (r : Record) : Prop :=
  s.running = true ∧ s.blockEndDue = false ∧ s.TableSound ∧ r ∈ s.records ∧ r.state ≠ .lapsed

/-- The conditions on a record at a block end that the block-end statements share. -/
abbrev BlockEndReady (s : State) (r : Record) : Prop :=
  s.running = true ∧ s.blockEndDue = true ∧ s.TableSound ∧ r ∈ s.records ∧ r.state ≠ .lapsed

/-- The conditions on a record that a command or transition names. -/
abbrev CommandReady (s : State) (r : Record) : Prop :=
  s.running = true ∧ s.TableSound ∧ s.recordOf r.identity = some r

/-- The conditions on a slot of `settler` that the frame's search statement shares. -/
abbrev SlotReady (s : State) : Prop :=
  s.running = true ∧ s.blockEndDue = false ∧ s.TableSound ∧ s.SearchSound ∧
    ∀ sl ∈ s.slots, s.recordOf sl.identity = some settler ∧ sl.correlation.length = 1024

/-- The conditions on the search of `steady` that the search-end statements share. -/
abbrev SearchReady (s : State) : Prop :=
  s.running = true ∧ s.TableSound ∧ s.SearchSound ∧ s.recordOf 100 = some steady ∧ s.slots.length = 1

theorem witness_StepTakesFrontCommand :
    ({ State.reset with pending := [.ident, .store] } : State).pending = .ident :: [.store] ∧
      State.reset.pending = [] := by decide +kernel

theorem witness_EveryCommandCompletes :
    ({ State.reset with powered := false } : State).powered = false ∧
      ({ State.reset with powered := false } : State).running = false ∧
      ({ State.reset with resetHeld := true } : State).running = false ∧
      (∀ pin straps, Instr.ident ≠ .reset pin straps) ∧ Instr.ident ≠ .powerLoss :=
  ⟨by decide, by decide, by decide, (fun _ _ h => by cases h), (fun h => by cases h)⟩

theorem witness_FrameHighwaysAndPhase :
    State.reset.running = true ∧ State.reset.phase = 63 ∧ busyState.running = true ∧
      busyState.phase = 62 := by decide +kernel

theorem witness_busyState_sound : busyState.TableSound ∧ busyState.SearchSound ∧ busyState.StatesSound ∧
    busyState.PoolSound ∧ busyState.WaitingSound ∧ busyState.ReferencesSound ∧ busyState.SettingsSound ∧
    busyState.StoreSound := by decide +kernel

theorem witness_busyState_records_sound :
    (∀ r ∈ busyState.records, r.ModelSound (busyState.profileOf r) ∧ r.LevelsSound (busyState.profileOf r)) ∧
      (∀ sl ∈ busyState.slots, sl.Sound) ∧ busyState.CountsSound ∧ busyState.TalliesSound ∧
      busyState.TalkCountsSound ∧ busyState.HighwaysSound := by decide +kernel

/-- An unbound position and one bound to a LAPSED record. -/
theorem witness_FramePassesUnbound :
    busyState.running = true ∧ busyState.blockEndDue = false ∧ busyState.recordAt 0 = none ∧
      (busyState.recordAt 127).map (·.state) = some .lapsed := by decide +kernel

/-- The residual is what the frame adds to the residual energy, 30 squared in the worked frame (R54). -/
theorem witness_FrameBlockAccumulation :
    let t := after (.frameSync (timeslot 5 1000) (timeslot 5 (-430))) workedState
    (t.recordOf 100).map (fun r => (r.block.energyIn, r.block.energyResidual, r.block.sumXin)) =
      some (184900, 900, 430) := by decide +kernel

theorem witness_frame_statements : FrameReady workedState workedRecord ∧
    (∀ w ∈ workedRecord.held, w.coefficients.length = 64) ∧ workedState.NoSearchEnds := by decide +kernel

/-- What the worked frame leaves of a record whose kept fields are all off their values at attachment. -/
theorem witness_FrameHighwaysAndPhase_keeps :
    let r : Record := { workedRecord with
      resume := some .settling, unplaced := [600], padIn := some 2896, background := 9, passCount := 3, failCount := 2
      toneCount := 7, quietCount := 5, idleCount := 11, alarms := 0x5, lastResult := .placed, lastTin := 3, lastXin := 4 }
    let s := (given [r]).setProfile 0 workedProfile
    let t := (after (.frameSync (timeslot 5 1000) (timeslot 5 (-430))) s).recordOf 100
    FrameReady s r ∧ s.NoSearchEnds ∧ t ≠ some r ∧
      t.map (fun q => { r with
        history := q.history, talk := q.talk, nearHold := q.nearHold, noise := q.noise, held := q.held
        block := q.block }) = t := by decide +kernel

/-- The far decision at its boundary, and the near trigger present, absent with the counter running, and absent. -/
theorem witness_FrameTalkDecision_clauses :
    let talk (r : Record) (xin : Int) :=
      (((after (.frameSync (timeslot 5 0) (timeslot 5 xin)) (given [r])).recordOf 100).map
        fun q => (q.talk, q.nearHold))
    talk settler 95 = some (.idle, 0) ∧ talk settler 96 = some (.near, 240) ∧
      talk { settler with nearHold := 1 } 95 = some (.near, 0) ∧
      talk { settler with history := (List.replicate 1024 0).set 62 96 } 95 = some (.far, 0) ∧
      talk { settler with history := (List.replicate 1024 0).set 63 96 } 95 = some (.idle, 0) := by decide +kernel

/-- Both sides of the suppressor's condition, and both fills. -/
theorem witness_FrameTrunkOut_clauses :
    let tout (p : Profile) (xin : Int) :=
      (after (.frameSync (timeslot 5 1000) (timeslot 5 xin)) ((given [steady]).setProfile 0 p)).nextTrunkOut.getD 5 0
    tout factoryProfile 251 = 251 ∧ tout { factoryProfile with comfortFillOn := false } 250 = 0 ∧
      tout factoryProfile 250 = 0 := by decide +kernel

/-- A frame that adapts, and a frozen record's, which does not. -/
theorem witness_FrameAdaptation_clauses :
    FrameReady ((given [{ workedRecord with freeze := true }]).setProfile 0 workedProfile)
      { workedRecord with freeze := true } ∧
    (((after (.frameSync (timeslot 5 1000) (timeslot 5 (-430)))
      ((given [{ workedRecord with freeze := true }]).setProfile 0 workedProfile)).recordOf 100).map (·.held)) =
      some workedRecord.held := by decide +kernel

/-- A slot in the middle of a search, one a frame short of completion, and one a frame short of its time. -/
theorem witness_FrameSearchSlot :
    SlotReady (searching 2046 2046 0 worked1 settler) ∧ SlotReady (searching 2047 15999 0 (peaks []) settler) ∧
      (searching 2047 15999 0 worked1 settler).slots.length = 1 ∧ settler.history.length = 1024 := by decide +kernel

theorem witness_FrameSearchSlot_clauses :
    let last (s : State) (v : Int) :=
      ((after (.frameSync (timeslot 5 v) (timeslot 5 0)) s).recordOf 100).map (·.lastResult)
    last (searching 2046 15998 0 worked1 settler) 1000 = some .noResult ∧
      last (searching 2047 15999 0 worked1 settler) 1000 = some .placed ∧
      last (searching 2047 15999 0 worked1 settler) 0 = some .inconclusive := by decide +kernel

/-- The only search that ends, which installs its placement in the frame itself; and two searches that end at one frame,
with a window free for the lower position only. -/
theorem witness_FrameSearchSlot_ends :
    let one := searching 2047 9000 600000 worked1 settler
    let last (id : Identity) : Slot :=
      { identity := id, correlation := worked1, referenceSum := 600000, qualifying := 2047, elapsed := 9000 }
    let two : State :=
      { given [{ settler with held := [] }, { settler with identity := 200, position := 6, held := [] }] with
        free := 3, slots := [last 200, last 100] }
    let frame := Instr.frameSync ((timeslot 5 1000).set 6 1000) (timeslot 5 0)
    (after frame one).slots = [] ∧
      ((after frame one).recordOf 100).map (fun r => r.held.map (·.offset)) = some [296, 360, 854] ∧
      two.running = true ∧ two.blockEndDue = false ∧ two.TableSound ∧ two.SearchSound ∧
      ((after frame two).recordOf 100).map (fun r => r.held.length) = some 3 ∧
      ((after frame two).recordOf 200).map (fun r => r.unplaced) = some [296, 360, 854] := by decide +kernel

/-- Two parts that share one record and its profile, and nothing else. -/
theorem witness_FrameIsolation :
    let s₂ := { given [settler, { clear with identity := 300, position := 31 }] with mask := 0x00 }
    FrameReady (given [settler]) settler ∧ FrameReady s₂ settler ∧ (given [settler]).NoSearchEnds ∧
      s₂.NoSearchEnds ∧ (given [settler]).profileOf settler = s₂.profileOf settler ∧
      sampleAt (timeslot 5 9) settler.position = sampleAt ((timeslot 5 9).set 31 7) settler.position := by
  decide +kernel

theorem witness_BlockEndFrame :
    State.reset.blockEndDue = false ∧ (atBlockEnd [settler, { gone with identity := 400, position := 127 }]).TableSound ∧
      (atBlockEnd [settler, { gone with identity := 400, position := 127 }]).StatesSound ∧
      (atBlockEnd [settler]).running = true ∧ (atBlockEnd [settler]).blockEndDue = true := by decide +kernel

/-- A FRAME_SYNC with a block end due makes the block end first: the record promotes, and its frame work is the next
block's first. -/
theorem witness_BlockEndFrame_due :
    let t := after (.frameSync silentHighway silentHighway)
      (atBlockEnd [{ settler with passCount := 3, block := farBlock }])
    (t.recordOf 100).map (fun r => (r.state, r.passCount, r.block.live)) = some (.converged, 0, 1) ∧
      t.phase = 0 ∧ t.blockEndDue = false := by decide +kernel

theorem witness_BlockEndPartial :
    let r := { settler with block := { live := 63, clip := true } }
    BlockEndReady (atBlockEnd [r]) r ∧ r.block.live ≠ 64 := by decide +kernel

/-- No window freed: no grant. A window freed by a lapse at the same block end: one grant, of the stronger offset. -/
theorem witness_BlockEndPartial_grants :
    let waits : Record := { settler with
      identity := 200, position := 6, held := [zeroWindow 300], unplaced := [70, 500], block := { live := 63 } }
    let lapses : Record := { settler with idleCount := 124, block := { live := 64 } }
    let s (idleLimit : Nat) : State :=
      { (atBlockEnd [lapses, waits]).setProfile 0 { factoryProfile with idleLimit := idleLimit } with
        free := 0, waiting := [200] }
    let left (idleLimit : Nat) := ((after .blockEnd (s idleLimit)).recordOf 200).map
      fun r => (r.held.map (·.offset), r.unplaced)
    BlockEndReady (s 1) waits ∧ waits.block.live ≠ 64 ∧ left 0 = some ([300], [70, 500]) ∧
      left 1 = some ([70, 300], [500]) ∧ (waits.granted 1).held.map (·.offset) = [70, 300] := by decide +kernel

/-- The incoming controller qualifies at 32 FAR and DOUBLE frames, not at 31. -/
theorem witness_BlockEndMeasures :
    let r (n : Nat) := { settler with block := { live := 64, farFrames := n, levelIn := 64 * 2401 } }
    BlockEndReady (atBlockEnd [r 32]) (r 32) ∧ (r 32).block.live = 64 ∧
      ((after .blockEnd (atBlockEnd [r 32])).recordOf 100).map (·.gainIn) = some 3840 ∧
      ((after .blockEnd (atBlockEnd [r 31])).recordOf 100).map (·.gainIn) = some 4096 := by decide +kernel

/-- The classes of R82 at their boundaries, with S = 96 and L = 589,824: the state and counts they leave. -/
theorem witness_BlockEndConvergence :
    let r (ey ee : Nat) := { steady with
      failCount := 7, passCount := 4, block := { farBlock with energyIn := ey, energyResidual := ee } }
    let left (ey ee : Nat) := ((after .blockEnd (atBlockEnd [r ey ee])).recordOf 100).map
      fun q => (q.state, q.passCount, q.failCount)
    BlockEndReady (atBlockEnd [r 0 0]) (r 0 0) ∧ (r 0 0).Qualifying ∧ (r 0 0).toneCount < 49 ∧
      factoryProfile.idleLimit = 0 ∧
      left 589824 9999999 = some (.converged, 4, 0) ∧ left 600000 37500 = some (.converged, 4, 0) ∧
      left 600000 37501 = some (.converged, 0, 0) ∧ left 600000 150000 = some (.converged, 0, 0) ∧
      left 600000 150001 = some (.settling, 0, 0) ∧ left 600000 1200000 = some (.settling, 0, 0) ∧
      ((after .blockEnd (atBlockEnd [r 600000 1200001])).recordOf 100).map (·.tallies.divergences) = some 1 := by
  decide +kernel

/-- Whole blocks that diverge or promote beside the 50th tone-like block, or promote beside the 125th idle one. -/
def toneBlock (residual : Nat) : BlockValues :=
  { farBlock with energyIn := 600000, energyResidual := residual, changesTin := 36, sumTin := 256 * 64 }
def diverges (tones : Nat) : Record :=
  { steady with toneCount := tones, held := [zeroWindow 7], block := toneBlock 1200001 }
def promotes : Record := { settler with toneCount := 49, passCount := 3, block := toneBlock 0 }
def lapses (idles : Nat) : Record := { settler with passCount := 3, idleCount := idles, block := farBlock }

/-- A part at a block end under an idle limit of one second. -/
def timed (records : List Record) : State :=
  (atBlockEnd records).setProfile 0 { factoryProfile with idleLimit := 1 }

/-- The state, resume state and window offsets that such a block end leaves a record. -/
def leftBy (r : Record) : RecordState × Option ResumeState × List Nat :=
  match (after .blockEnd (timed [r])).recordOf 100 with
  | none => (.transparent, none, [])
  | some r => (r.state, r.resume, r.held.map (·.offset))

/-- Supervision under an idle limit that is not reached; at a block end that also enters BYPASS, whose resume state is the
one supervision left: SETTLING after a divergence, CONVERGED after a promotion; and at one that lapses. -/
theorem witness_BlockEndConvergence_with_others :
    leftBy (diverges 0) = (.settling, none, [7]) ∧ leftBy (diverges 49) = (.bypass, some .settling, [7]) ∧
      leftBy promotes = (.bypass, some .converged, [0]) ∧ leftBy (lapses 123) = (.converged, none, [0]) ∧
      leftBy (lapses 124) = (.lapsed, none, []) := by decide +kernel

theorem witness_BlockEndConvergence_with_others_ready :
    BlockEndReady (timed [diverges 49]) (diverges 49) ∧ BlockEndReady (timed [lapses 124]) (lapses 124) := by
  decide +kernel

/-- A BYPASS record that returns to CONVERGED keeps its counts, its tallies and its windows with their coefficients, and is
not counted as converged at that block end (R65, R89). -/
theorem witness_BlockEndToneQuietIdle_keeps :
    let w : Window := { offset := 7, coefficients := List.replicate 64 9 }
    let q : Record := { bypassed with
      resume := some .converged, passCount := 4, failCount := 3, quietCount := 31, held := [w], unplaced := [200]
      block := { live := 64 } }
    let t := (after .blockEnd (atBlockEnd [q])).recordOf 100
    BlockEndReady (atBlockEnd [q]) q ∧
      t.map (fun r => (r.state, r.passCount, r.failCount)) = some (.converged, 4, 3) ∧
      t.map (fun r => (r.held, r.unplaced, r.tallies.convergedBlocks)) = some ([w], [200], 0) := by decide +kernel

/-- The return to CONVERGED puts no request, and the same return to SETTLING puts one (R154). -/
theorem witness_BlockEndFrame_returns :
    let q (resume : ResumeState) : Record :=
      { bypassed with resume := some resume, quietCount := 31, block := { live := 64 } }
    let status (resume : ResumeState) := (after .blockEnd (atBlockEnd [q resume])).searchStatus 100
    (q .converged).ReturnsUnder factoryProfile ∧ (atBlockEnd [q .converged]).searchStatus 100 = .noSearch ∧
      status .converged = .noSearch ∧ status .settling = .running := by decide +kernel

/-- Entry at the 50th tone-like block, return at the 32nd quiet one, lapse at the 125th idle one. -/
theorem witness_BlockEndToneQuietIdle :
    let tone (n : Nat) := { settler with
      toneCount := n, block := { live := 64, changesTin := 36, sumTin := 256 * 64 } }
    let quiet (n : Nat) := { bypassed with quietCount := n, block := { live := 64, sumTin := 95 * 64 + 63 } }
    let idle (n : Nat) := (atBlockEnd [{ settler with idleCount := n, block := { live := 64 } }]).setProfile 0
      { factoryProfile with idleLimit := 1 }
    let state (s : State) := ((after .blockEnd s).recordOf 100).map (·.state)
    BlockEndReady (atBlockEnd [tone 49]) (tone 49) ∧
      state (atBlockEnd [tone 48]) = some .settling ∧ state (atBlockEnd [tone 49]) = some .bypass ∧
      state (atBlockEnd [quiet 30]) = some .bypass ∧ state (atBlockEnd [quiet 31]) = some .settling ∧
      state (idle 123) = some .settling ∧ state (idle 124) = some .lapsed := by decide +kernel

/-- ECHO_STRONG where Ey × 4 exceeds Ex by one step, and not where they are equal. -/
theorem witness_BlockEndAlarms :
    let r (ex : Nat) := { settler with block := { farBlock with energyIn := 1000, energyOut := ex } }
    let left (ex : Nat) := ((after .blockEnd (atBlockEnd [r ex])).recordOf 100).map (·.alarms)
    BlockEndReady (atBlockEnd [r 4000]) (r 4000) ∧ left 3999 = some 0x2 ∧ left 4000 = some 0x0 := by decide +kernel

/-- RECORD_ALARM for a kind that is new to the record, and none for one it already holds. -/
theorem witness_BlockEndAlarms_summary :
    let r (alarms : AlarmSet) := { settler with alarms := alarms, block := { live := 1, clip := true } }
    let left (alarms : AlarmSet) := (after .blockEnd { atBlockEnd [r alarms] with summary := 0x00 }).summary
    left 0x0 = 0x10 ∧ left 0x2 = 0x10 ∧ left 0x4 = 0x00 ∧ left 0xF = 0x00 := by decide +kernel

theorem witness_SupervisorTransitions :
    CommandReady (given [{ settler with passCount := 4 }]) { settler with passCount := 4 } ∧
      CommandReady (given [{ steady with failCount := 8 }]) { steady with failCount := 8 } ∧
      CommandReady (given [{ steady with toneCount := 50 }]) { steady with toneCount := 50 } ∧
      CommandReady (given [{ bypassed with quietCount := 32 }]) { bypassed with quietCount := 32 } := by
  decide +kernel

/-- The state that each transition leaves at its count, and one short of it. -/
theorem witness_SupervisorTransitions_clauses :
    let left (i : Instr) (r : Record) := ((after i (given [r])).recordOf 100).map (·.state)
    left (.promotion 100) { settler with passCount := 4 } = some .converged ∧
      left (.promotion 100) { settler with passCount := 3 } = some .settling ∧
      left (.pathChange 100) { steady with failCount := 8 } = some .settling ∧
      left (.pathChange 100) { steady with failCount := 7 } = some .converged ∧
      left (.entryToBypass 100) { steady with toneCount := 50 } = some .bypass ∧
      left (.entryToBypass 100) { steady with toneCount := 49 } = some .converged ∧
      left (.returnFromBypass 100) { bypassed with quietCount := 32 } = some .settling ∧
      left (.returnFromBypass 100) { bypassed with quietCount := 31 } = some .bypass := by decide +kernel

theorem witness_IdleLapseReleases :
    (∀ r ∈ lapsing.records, CommandReady lapsing r ∧ r.state ≠ .lapsed ∧ r.block.idleRose = true ∧
      (lapsing.profileOf r).idleLimit ≠ 0 ∧ (lapsing.profileOf r).idleLimit * 125 ≤ r.idleCount) ∧
      lapsing.records ≠ [] ∧ lapsing.waiting = [] := by decide +kernel

theorem witness_GrantsGoInTurn :
    let r := { settler with held := [], unplaced := [70, 300] }
    let s := { given [r] with free := 1, waiting := [100] }
    s.TableSound ∧ 0 < s.free ∧ s.waiting = 100 :: [] ∧ s.recordOf 100 = some r ∧ r.unplaced = 70 :: [300] ∧
      s.waiting.Nodup ∧ s.grantAll.free = 0 ∧ s.grantAll.waiting = [100] := by decide +kernel

/-- A window is placed in ascending offset order; the placement of the search unit's rows in a sound state. -/
theorem witness_insertWindow :
    (insertWindow (zeroWindow 70) [zeroWindow 5, zeroWindow 300]).map (·.offset) = [5, 70, 300] ∧
      busyState.SearchSound ∧ busyState.searchStatus 100 = .running := by decide +kernel

theorem witness_CandidatesAreRanked : worked1.length = 1024 ∧
    (candidatesOf worked1).map (·.number) = [9, 10, 11, 27] := by decide +kernel

/-- The steps of R107 by their clauses: the limit reached, a peak within a window, a free start, a move right, a move
left, a clamped start and a dropped move. -/
theorem witness_PlacementIsSound :
    placementOf 1 [312, 870] = [296] ∧ placementOf 3 [312, 322] = [296] ∧ placementOf 3 [312, 870] = [296, 854] ∧
      placementOf 3 [312, 365] = [296, 360] ∧ placementOf 3 [312, 290] = [296, 232] ∧
      placementOf 3 [1023, 3] = [960, 0] ∧ placementOf 3 [1023, 950] = [960, 896] ∧
      placementOf 3 [50, 20] = [34] := by decide +kernel

theorem witness_SearchEndsWithoutPlacement :
    SearchReady (searching 2048 9000 1280001 worked1 steady) ∧ (∀ c ∈ worked1, c.natAbs * 32 < 1280001) ∧
      SearchReady (searching 2047 16000 0 worked1 steady) := by decide +kernel

/-- One frame short of its time, and one qualifying frame short of completion, the search goes on. -/
theorem witness_SearchEndsWithoutPlacement_clauses :
    (after (.searchTimeout 100) (searching 2047 15999 0 worked1 steady)).slots.length = 1 ∧
      (after (.searchTimeout 100) (searching 2047 16000 0 worked1 steady)).slots.length = 0 ∧
      (after (.searchComplete 100) (searching 2047 9000 0 worked1 steady)).slots.length = 1 ∧
      (after (.searchComplete 100) (searching 2048 9000 1280001 worked1 steady)).slots.length = 0 := by decide +kernel

/-- Smax × 32 = Sx is echo present; with too few windows free the weakest offsets stay unplaced. -/
theorem witness_SearchPlacedInstalls :
    let s := { searching 2048 9000 1280000 worked1 steady with free := 1 }
    s.running = true ∧ s.TableSound ∧ s.SearchSound ∧ s.recordOf 100 = some steady ∧
      (∃ c ∈ worked1, 1280000 ≤ c.natAbs * 32) ∧
      ((after (.searchComplete 100) s).recordOf 100).map (fun r => (r.held.map (·.offset), r.unplaced, r.alarms)) =
        some ([296, 360], [854], 0x8) := by decide +kernel

/-- WINDOW_SHORT that the record already holds raises no new event; the free count where every offset gets a window. -/
theorem witness_SearchPlacedInstalls_clauses :
    let s (free : Nat) (alarms : AlarmSet) : State :=
      { searching 2048 9000 1280000 worked1 { steady with alarms := alarms } with free := free, summary := 0x01 }
    let left (free : Nat) (alarms : AlarmSet) :=
      let t := after (.searchComplete 100) (s free alarms)
      (t.summary, t.free, t.waiting)
    left 1 0x0 = (0x11, 0, [100]) ∧ left 1 0x8 = (0x01, 0, [100]) ∧ left 2 0x0 = (0x01, 0, []) ∧
      left 9 0x4 = (0x01, 7, []) := by decide +kernel

/-- Each refusal of ATTACH at the boundary of its check. -/
theorem witness_AttachRefusals :
    let s := given [settler, { gone with identity := 400, position := 127 }]
    let full := { State.reset with records := (List.range 96).map fun k =>
      { clear with identity := BitVec.ofNat 16 k, position := Fin.ofNat 128 k } }
    s.running = true ∧ s.TableSound ∧ full.TableSound ∧ full.records.length = 96 ∧
      statusOf (after (.attach 1 128 0 0) s) = some 0x14 ∧ statusOf (after (.attach 1 126 8 0) s) = some 0x15 ∧
      statusOf (after (.attach 1 126 7 2) s) = some 0x16 ∧ statusOf (after (.attach 100 126 7 1) s) = some 0x11 ∧
      statusOf (after (.attach 400 126 0 0) s) = some 0x11 ∧ statusOf (after (.attach 1 5 0 0) s) = some 0x12 ∧
      statusOf (after (.attach 400 127 0 0) s) = some 0x00 ∧
      statusOf (after (.attach 999 96 0 0) full) = some 0x13 := by decide +kernel

theorem witness_AttachCreates :
    let s := given [settler, { gone with identity := 400, position := 127 }]
    s.running = true ∧ s.TableSound ∧ s.StatesSound ∧
      (∀ r ∈ s.records, r.identity = 7 → r.state = .lapsed ∧ r.position = 127) ∧
      (∀ r ∈ s.records, r.position = 127 → r.state = .lapsed) ∧ s.records.length < 96 := by decide +kernel

theorem witness_DetachRemoves : CommandReady (given [settler]) settler ∧ (given [settler]).waiting = [] ∧
    (given [settler]).recordOf 101 = none ∧ resultsOf (after (.detach 100) (given [gone])) = [0x02] := by
  decide +kernel

/-- A slot freed by the record that leaves goes to the head of the priority lane; the other searches go on (R97, R111). -/
def crowded : State :=
  { given ([100, 101, 102, 103, 104, 105].map fun k =>
      { settler with identity := BitVec.ofNat 16 k, position := Fin.ofNat 128 k, held := [] }) with
    slots := [100, 101, 102, 103].map fun k => { freshSlot (BitVec.ofNat 16 k) with elapsed := k }
    priorityLane := [105], ordinaryLane := [104] }

theorem witness_searches_of_others :
    let placed (s : State) := (s.slots.map fun sl => (sl.identity, sl.elapsed), s.priorityLane, s.ordinaryLane)
    crowded.running = true ∧ crowded.TableSound ∧ crowded.SearchSound ∧ crowded.StatesSound ∧
      placed (after (.detach 101) crowded) = ([(100, 100), (102, 102), (103, 103), (105, 0)], [], [104]) ∧
      placed (after (.detach 105) crowded) =
        ([(100, 100), (101, 101), (102, 102), (103, 103)], [], [104]) ∧
      placed (after (.modify 103 1 0xFF 0xFF 0xFFFF 0xFFFF 0) crowded) =
        ([(100, 100), (101, 101), (102, 102), (105, 0)], [], [104]) := by decide +kernel

/-- A search that ends frees its slot for the waiting request, and the lanes' other requests stay. -/
theorem witness_searches_of_others_at_an_end :
    let s : State := { crowded with
      slots := crowded.slots.map fun sl => if sl.identity = 102 then { sl with elapsed := 16000 } else sl }
    let t := after (.searchTimeout 102) s
    t.slots.map (·.identity) = [100, 101, 103, 105] ∧ t.priorityLane = [] ∧ t.ordinaryLane = [104] := by
  decide +kernel

/-- Two waiting records that share the windows a record releases, in turn: one window each, then the head again. -/
def queued (held : List Nat) : State :=
  { given
      [{ settler with held := held.map zeroWindow, block := { live := 64 }, idleCount := 124 },
        { clear with identity := 200, position := 6, state := .bypass, resume := some .settling, unplaced := [70, 300] },
        { clear with identity := 300, position := 7, state := .settling, unplaced := [500] }] with
    free := 0, waiting := [200, 300] }

/-- Where the windows of a queue have gone: the offsets held by the two, the waiting list, the free count, the tally. -/
def shared (s : State) : List (List Nat) × List Identity × Nat × Nat :=
  ((s.records.filter (·.identity != 100)).map (fun r => r.held.map (·.offset)), s.waiting, s.free, s.part.grants)

theorem witness_grants_of_releases :
    (queued [1, 80, 160]).running = true ∧ (queued [1, 80, 160]).TableSound ∧
      shared (after (.detach 100) (queued [1, 80])) = ([[70], [500]], [200], 0, 2) ∧
      shared (after (.detach 100) (queued [1, 80, 160])) = ([[70, 300], [500]], [], 0, 3) ∧
      shared (after (.modify 100 1 0xFF 0xFF 0xFFFF 0xFFFF 0) (queued [1])) = ([[70], []], [300, 200], 0, 1) := by
  decide +kernel

theorem witness_grants_of_a_trim :
    let s := (queued [1, 80, 160]).setProfile 4 { factoryProfile with windowLimit := 1 }
    shared (after (.modify 100 0xFF 0xFF 4 0xFFFF 0xFFFF 0) s) = ([[70], [500]], [200], 0, 2) := by decide +kernel

/-- The lapse of the record at a block end releases its windows to the two. -/
theorem witness_grants_of_a_lapse :
    let s : State := { (queued [1, 80]).setProfile 0 { factoryProfile with idleLimit := 1 } with blockEndDue := true }
    (s.recordOf 100).any (fun r => decide (r.Whole ∧ r.LapsesUnder (s.profileOf r))) = true ∧
      shared (after .blockEnd s) = ([[70], [500]], [200], 0, 2) ∧
      shared s.lapsesReleased = ([[70], [500]], [200], 0, 2) := by decide +kernel

theorem witness_ModifyRefusals :
    let s := given [settler, { gone with identity := 400, position := 127 }]
    s.running = true ∧ s.TableSound ∧
      statusOf (after (.modify 100 0 0 8 0 0 0) s) = some 0x15 ∧
      statusOf (after (.modify 100 2 0 7 0 0 0) s) = some 0x16 ∧
      statusOf (after (.modify 100 0 0 7 1023 0 0) s) = some 0x16 ∧
      statusOf (after (.modify 100 0 0 7 0 16384 0) s) = some 0x16 ∧
      statusOf (after (.modify 101 0 0 7 1024 16383 0) s) = some 0x10 ∧
      statusOf (after (.modify 400 0 0 7 1024 16383 0) s) = some 0x18 := by decide +kernel

theorem witness_ModifyChanges : CommandReady (given [settler]) settler ∧ settler.state ≠ .lapsed ∧
    (1024#16).toNat = 1024 ∧ (0x07 : Byte).toNat = (7 : ProfileNumber).val := by decide +kernel

theorem witness_ModifyMode : CommandReady (given [settler]) settler ∧ CommandReady (given [bypassed]) bypassed ∧
    CommandReady (given [clear]) clear ∧ (given [clear]).StatesSound := by decide +kernel

/-- A MODIFY that gives CANCEL and a profile claims at the new profile's provisional offset (R18). -/
theorem witness_ModifyMode_with_profile :
    let s := (given [clear]).setProfile 4 { factoryProfile with provisionalOffset := 640 }
    let t := after (.modify 100 0x00 0x01 0x04 1024 0x0000 0x01) s
    CommandReady s clear ∧ (t.recordOf 100).map (fun r => (r.state, r.profile, r.freeze, r.padIn)) =
        some (.settling, 4, true, some 1024) ∧
      (t.recordOf 100).map (fun r => r.held.map (·.offset)) = some [640] := by decide +kernel

theorem witness_RebindMoves :
    CommandReady (given [settler]) settler ∧ (¬∃ q ∈ (given [settler]).records, q.position = 127) ∧
      CommandReady (given [gone]) gone ∧ statusOf (after (.rebind 100 128) (given [settler])) = some 0x14 := by
  decide +kernel

theorem witness_MoveLineMoves : busyState.running = true ∧ busyState.TableSound ∧ busyState.SearchSound ∧
    statusOf (after (.moveLine 0 3) busyState) = some 0x1E ∧
    resultsOf (after (.moveLine 0 1) busyState) = [3] ∧
    statusOf (after (.moveLine 0 4) busyState) = some 0x16 := by decide +kernel

theorem witness_ResearchActs :
    let s := given [settler, { clear with identity := 300, position := 31 }, { gone with identity := 400, position := 127 }]
    s.running = true ∧ s.recordOf 100 = some settler ∧ statusOf (after (.research 100 2) s) = some 0x16 ∧
      statusOf (after (.research 101 1) s) = some 0x10 ∧ statusOf (after (.research 400 1) s) = some 0x18 ∧
      statusOf (after (.research 300 1) s) = some 0x17 := by decide +kernel

theorem witness_record_queries :
    let s := given [settler]
    s.running = true ∧ s.TableSound ∧ s.recordOf 100 = some settler ∧ s.recordOf 101 = none ∧
      settler.held.length ≤ (1 : Byte).toNat ∧ settler.held[(0 : Byte).toNat]? = some (zeroWindow 0) ∧
      statusOf (after (.find 128) s) = some 0x14 ∧ statusOf (after (.find 127) s) = some 0x10 ∧
      statusOf (after (.list 0x20 0 0) s) = some 0x16 ∧ statusOf (after (.list 0x1F 0x0F 0) s) = some 0x00 ∧
      statusOf (after (.ackAlarms 100 0x10) s) = some 0x16 ∧ statusOf (after (.ackAlarms 101 0x0F) s) = some 0x10 := by
  decide +kernel

theorem witness_ProfileReadAndWrite :
    let s := given [settler]
    let layout := profileBytes factoryProfile
    s.running = true ∧ layout.length = 36 ∧ s.refCounts.get 0 ≠ 0 ∧ s.refCounts.get 1 = 0 ∧
      statusOf (after (.profileWrite 8 layout) s) = some 0x15 ∧ statusOf (after (.profileWrite 7 layout) s) = some 0x00 ∧
      statusOf (after (.profileWrite 0 layout) s) = some 0x19 ∧
      statusOf (after (.profileWrite 1 (layout.set 30 2)) s) = some 0x16 ∧
      statusOf (after (.profileWrite 1 (layout.take 35)) s) = some 0x20 ∧
      statusOf (after (.profileWrite 8 (layout ++ [0])) s) = some 0x20 := by decide +kernel

theorem witness_ProfileLayoutRoundTrip : factoryProfile.InRange ∧ (List.replicate 36 (1 : Byte)).length = 36 ∧
    layoutFlagsValid (List.replicate 36 1) = true := by decide +kernel

theorem witness_RuleCommands :
    State.reset.running = true ∧ (7 : Byte).toNat = (7 : RuleNumber).val ∧
      statusOf (after (.ruleWrite 8 0 0 0 0 0) State.reset) = some 0x16 ∧
      statusOf (after (.ruleWrite 7 0 0 0 8 0) State.reset) = some 0x15 ∧
      statusOf (after (.ruleWrite 7 2 0 0 7 0) State.reset) = some 0x16 ∧
      statusOf (after (.ruleWrite 7 1 0 0 7 1) State.reset) = some 0x00 := by decide +kernel

theorem witness_StoreAndLoad :
    let flying := after .store State.reset
    State.reset.running = true ∧ State.reset.store.inFlight = none ∧ flying.store.inFlight = some factorySettings ∧
      statusOf (after .store flying) = some 0x1C ∧ statusOf (after .load flying) = some 0x1C ∧
      statusOf (after .store { State.reset with store := { State.reset.store with wear := 1999 } }) = some 0x01 ∧
      (after (.storeComplete true) flying).store.valid = true := by decide +kernel

/-- The attention line of a part that runs, with its mask, its reset pin held, and without supply. -/
theorem witness_EventCommands : State.reset.running = true ∧ State.reset.attentionDriven = true ∧
    ({ State.reset with mask := 0xFC } : State).attentionDriven = false ∧
    ({ State.reset with resetHeld := true } : State).attentionDriven = false ∧
    ({ State.reset with powered := false } : State).attentionDriven = false := by decide +kernel

theorem witness_TallyAndIdent :
    let s := given [settler]
    s.running = true ∧ s.TableSound ∧ s.recordOf 100 = some settler ∧ s.recordOf 101 = none ∧
      statusOf (after (.tally 2 100 0) s) = some 0x16 ∧ statusOf (after (.tally 1 101 1) s) = some 0x00 := by
  decide +kernel

theorem witness_ReplyIsFramed :
    (refuse State.reset .busy).results.length ≤ 198 ∧ (refuse State.reset .busy).state.port.address ≠ 15 ∧
      (respond 0x28 (refuse State.reset .busy)).port.reply = some [0xA5, 0x80, 0x02, 0x28, 0x1C, 0x3A] := by
  decide +kernel

theorem witness_CommandFrameEqualsRow :
    State.reset.running = true ∧ State.reset.port.hearing = .hunting ∧ State.reset.port.reply = none ∧
      State.reset.port.address ≠ 15 ∧ WellFormed (.find 38) = true ∧
      encodeCommand (.find 38) = some (0x12, [38]) ∧ (0x00 + 0x02 + 0x12 + 0x26 + 0xC6) % 256 = 0 ∧
      statusOf (after (.commandFrameReceived [0xA5, 0x00, 0x02, 0x12, 0x26, 0xC6]) State.reset) = some 0x10 := by
  decide +kernel

theorem witness_BroadcastIsSilent :
    encodeCommand (.setMask 3) = some (0x32, [3]) ∧ encodeCommand (.find 38) = some (0x12, [38]) ∧
      (after (.commandFrameReceived [0xA5, 0x0F, 0x02, 0x32, 0x03, 0xBA]) State.reset).mask = 3 ∧
      (after (.commandFrameReceived [0xA5, 0x0F, 0x02, 0x12, 0x26, 0xB7]) State.reset).port.reply = none := by
  decide +kernel

/-- Lengths 0, 1, 200 and 201; kind 8; an address that is not this unit's; an unknown code; a wrong count. -/
theorem witness_FramesAreJudged :
    let s := State.reset
    let heard (bytes : List Byte) := after (.commandFrameReceived bytes) s
    (heard [0xA5, 0, 0]).part.lineFaults = 1 ∧ (heard [0xA5, 0, 201]).part.lineFaults = 1 ∧
      (heard ([0xA5, 0, 200] ++ List.replicate 200 0 ++ [0x38])).part.lineFaults = 0 ∧
      heard [0xA5, 0x80, 1, 0x34, 0x4B] = s ∧ heard [0xA5, 0x01, 1, 0x34, 0xCA] = s ∧
      statusOf (heard [0xA5, 0, 1, 0x07, 0xF8]) = some 0x1F ∧
      statusOf (heard [0xA5, 0, 1, 0x12, 0xED]) = some 0x20 := by decide +kernel

/-- Broadcasts with a good check whose code is not in the list, and whose parameter count is not the list's. -/
theorem witness_FramesAreJudged_broadcast :
    (0x0F + 0x01 + 0x07 + 0xE9) % 256 = 0 ∧ (0x0F + 0x01 + 0x32 + 0xBE) % 256 = 0 ∧
      after (.commandFrameReceived [0xA5, 0x0F, 0x01, 0x07, 0xE9]) State.reset = State.reset ∧
      after (.commandFrameReceived [0xA5, 0x0F, 0x01, 0x32, 0xBE]) State.reset = State.reset := by decide +kernel

theorem witness_GapsAndCharacterFaults :
    (after (.commandFrameReceived [0xA5, 1]) State.reset).port.hearing = .assembling [0xA5, 1] ∧
      (after (.commandFrameReceived [0xA5, 1]) (after .ident State.reset)).port.hearing = .discarding [0xA5, 1] ∧
      (after (.commandFrameReceived [1]) State.reset).port.hearing = .hunting := by decide +kernel

/-- Noise is passed over, an incomplete frame is all assembled, and the worked FIND heard in two rows, after noise, has its
reply. -/
theorem witness_GapsAndCharacterFaults_hearing :
    let s := { State.reset with port := { State.reset.port with address := 3 } }
    let u := after (.commandFrameReceived [0x5A, 0xA5, 0x03, 0x02]) s
    after (.commandFrameReceived [0x5A, 0x00]) s = s ∧ u.port.hearing = .assembling [0xA5, 0x03, 0x02] ∧
      (after (.commandFrameReceived [0x12, 0x26, 0xC3]) u).port.hearing = .hunting ∧
      statusOf (after (.commandFrameReceived [0x12, 0x26, 0xC3]) u) = some 0x10 := by decide +kernel

theorem witness_OverrunAndReplySent :
    let s := after .ident State.reset
    s.running = true ∧ s.port.reply ≠ none ∧ s.port.hearing = .hunting ∧
      (after (.overrun [0, 201]) s).part.overruns = 1 ∧ (after (.overrun [0, 1, 0, 0]) s).part.overruns = 1 := by
  decide +kernel

theorem witness_CommandEncodingRoundTrip :
    WellFormed .ident = true ∧ encodeCommand .ident = some (0x34, []) ∧ decodeCommand 0x34 [] = .command .ident := by
  decide +kernel

/-- The step statements: a step of a sound state with a command waiting. -/
theorem witness_step_statements :
    let s := { busyState with pending := [.frameSync silentHighway silentHighway] }
    (match step s with | .next t => t.phase | _ => 0) = 63 ∧ s.pending.length = 1 := by decide +kernel

end Sys2Proof.Tests
end

section
/-! SUPPORT. The table as a list with two keys: what its look-ups find, how updates compose, and how one table is
compared with another, record by record. -/

namespace Sys2Proof.Machine

/-! ## Look-ups -/

theorem recordOf_eq_none_iff {s : State} {id : Identity} :
    s.recordOf id = none ↔ ∀ r ∈ s.records, r.identity ≠ id := by
  simp [State.recordOf]

theorem recordAt_eq_none_iff {s : State} {p : Position} :
    s.recordAt p = none ↔ ∀ r ∈ s.records, r.position ≠ p := by
  simp [State.recordAt]

/-- In a sound table the identity index finds exactly the records that hold the identity (R1). -/
theorem recordOf_eq_some_iff {s : State} (hs : s.TableSound) {id : Identity} {r : Record} :
    s.recordOf id = some r ↔ r ∈ s.records ∧ r.identity = id :=
  ⟨recordOf_some, fun ⟨hr, hi⟩ => hi ▸ recordOf_of_mem hs.2.1 hr⟩

/-- In a sound table the position map finds exactly the records bound to the position (R1). -/
theorem recordAt_eq_some_iff {s : State} (hs : s.TableSound) {p : Position} {r : Record} :
    s.recordAt p = some r ↔ r ∈ s.records ∧ r.position = p := by
  refine ⟨recordAt_some, fun ⟨hr, hp⟩ => ?_⟩
  rcases h : s.recordAt p with _ | q
  · exact absurd hp (recordAt_eq_none_iff.1 h r hr)
  · obtain ⟨hq, hqp⟩ := recordAt_some h
    exact congrArg some (List.inj_on_of_nodup_map hs.2.2 hq hr (hqp.trans hp.symm))

/-- Two records of a sound table with one identity are one record (R1). -/
theorem eq_of_identity_eq {s : State} (hs : s.TableSound) {q r : Record} (hq : q ∈ s.records) (hr : r ∈ s.records)
    (h : q.identity = r.identity) : q = r := List.inj_on_of_nodup_map hs.2.1 hq hr h

/-- Two records of a sound table at one position are one record (R1). -/
theorem eq_of_position_eq {s : State} (hs : s.TableSound) {q r : Record} (hq : q ∈ s.records) (hr : r ∈ s.records)
    (h : q.position = r.position) : q = r := List.inj_on_of_nodup_map hs.2.2 hq hr h

/-! ## Updates -/

theorem update_update (s : State) (id : Identity) {f : Record → Record} (g : Record → Record)
    (hf : ∀ r, (f r).identity = r.identity) : (s.update id f).update id g = s.update id fun r => g (f r) := by
  simp only [State.update, List.map_map, State.mk.injEq, true_and, and_true]
  refine List.map_congr_left fun r _ => ?_
  by_cases h : r.identity = id <;> simp [h, hf]

theorem update_congr {s : State} {id : Identity} {f g : Record → Record}
    (h : ∀ r ∈ s.records, r.identity = id → f r = g r) : s.update id f = s.update id g := by
  simp only [State.update, State.mk.injEq, true_and, and_true]
  refine List.map_congr_left fun r hr => ?_
  by_cases hi : r.identity = id
  · simp [hi, h r hr hi]
  · simp [hi]

theorem update_eq_self {s : State} {id : Identity} {f : Record → Record}
    (h : ∀ r ∈ s.records, r.identity = id → f r = r) : s.update id f = s := by
  rw [update_congr h]
  simp [State.update]

/-- In a sound table an update writes one value, that of the record it names. -/
theorem update_eq_const {s : State} (hs : s.TableSound) {id : Identity} {r : Record} (h : s.recordOf id = some r)
    (f : Record → Record) : s.update id f = s.update id fun _ => f r :=
  update_congr fun q hq hi => by
    rw [eq_of_identity_eq hs hq (recordOf_some h).1 (hi.trans (recordOf_some h).2.symm)]

theorem recordOf_congr {s t : State} (h : t.records = s.records) (id : Identity) : t.recordOf id = s.recordOf id := by
  simp [State.recordOf, h]

theorem profileOf_congr {s t : State} (h : t.settings = s.settings) (r : Record) : t.profileOf r = s.profileOf r := by
  simp [State.profileOf, h]

theorem tableSound_of_keys {s t : State} (hi : t.records.map (·.identity) = s.records.map (·.identity))
    (hp : t.records.map (·.position) = s.records.map (·.position)) (hs : s.TableSound) : t.TableSound := by
  have hl : t.records.length = s.records.length := by simpa using congrArg List.length hi
  exact ⟨hl ▸ hs.1, hi ▸ hs.2.1, hp ▸ hs.2.2⟩

/-! ## Two tables, record by record -/

theorem forall2_update {R : Record → Record → Prop} (s : State) (id : Identity) {f : Record → Record}
    (hrefl : ∀ r ∈ s.records, R r r) (hf : ∀ r ∈ s.records, r.identity = id → R r (f r)) :
    List.Forall₂ R s.records (s.update id f).records := by
  rw [State.update_records, List.forall₂_map_right_iff, List.forall₂_same]
  intro r hr
  by_cases h : r.identity = id
  · simpa [h] using hf r hr h
  · simpa [h] using hrefl r hr

theorem forall2_map_eq {α : Type} {R : Record → Record → Prop} (g : Record → α) (h : ∀ r q, R r q → g q = g r)
    {rs qs : List Record} (hR : List.Forall₂ R rs qs) : qs.map g = rs.map g := by
  induction hR with
  | nil => rfl
  | cons hab _ ih => simp [h _ _ hab, ih]

theorem forall2_exists_left {R : Record → Record → Prop} {rs qs : List Record} (hR : List.Forall₂ R rs qs) {q : Record}
    (hq : q ∈ qs) : ∃ r ∈ rs, R r q := by
  induction hR with
  | nil => simp at hq
  | cons hab _ ih =>
    rcases List.mem_cons.1 hq with rfl | hq
    · exact ⟨_, List.mem_cons_self, hab⟩
    · obtain ⟨r, hr, h⟩ := ih hq
      exact ⟨r, List.mem_cons_of_mem _ hr, h⟩

theorem forall2_exists_right {R : Record → Record → Prop} {rs qs : List Record} (hR : List.Forall₂ R rs qs) {r : Record}
    (hr : r ∈ rs) : ∃ q ∈ qs, R r q := by
  obtain ⟨q, hq, h⟩ := forall2_exists_left hR.flip hr
  exact ⟨q, hq, h⟩

theorem forall2_trans {R S T : Record → Record → Prop} (h : ∀ a b c, R a b → S b c → T a c) {xs ys zs : List Record}
    (hR : List.Forall₂ R xs ys) (hS : List.Forall₂ S ys zs) : List.Forall₂ T xs zs := by
  induction hR generalizing zs with
  | nil => cases hS; exact .nil
  | cons hab _ ih =>
    cases hS with
    | cons hbc hS => exact .cons (h _ _ _ hab hbc) (ih hS)

/-- What the identity index finds in a table that was compared with another, record by record. -/
theorem forall2_recordOf {R : Record → Record → Prop} (hid : ∀ r q, R r q → q.identity = r.identity) {s t : State}
    (hR : List.Forall₂ R s.records t.records) {id : Identity} {r : Record} (h : s.recordOf id = some r) :
    ∃ q, t.recordOf id = some q ∧ R r q := by
  unfold State.recordOf at h ⊢
  generalize s.records = rs, t.records = qs at *
  induction hR with
  | nil => simp at h
  | cons hab _ ih =>
    rw [List.find?_cons] at h ⊢
    rw [hid _ _ hab]
    split at h
    · exact ⟨_, rfl, Option.some.inj h ▸ hab⟩
    · exact ih h

/-! ## States that differ in the table, the search unit, the pool and the tallies only -/

theorem sameApart_iff {s t : State} : s.SameApart t ↔
    t.powered = s.powered ∧ t.resetHeld = s.resetHeld ∧ t.phase = s.phase ∧ t.blockEndDue = s.blockEndDue ∧
      t.trunkOut = s.trunkOut ∧ t.exchangeOut = s.exchangeOut ∧ t.nextTrunkOut = s.nextTrunkOut ∧
      t.nextExchangeOut = s.nextExchangeOut ∧ t.settings = s.settings ∧ t.refCounts = s.refCounts ∧
      t.store = s.store ∧ t.mask = s.mask ∧ t.port = s.port ∧ t.freeIndex = s.freeIndex ∧
      t.pending = s.pending := by
  cases s; cases t; simp [State.SameApart]

theorem sameApart_trans {s t u : State} (h : s.SameApart t) (k : t.SameApart u) : s.SameApart u := by
  rw [sameApart_iff] at *
  obtain ⟨h1, h2, h3, h4, h5, h6, h7, h8, h9, h10, h11, h12, h13, h14, h15⟩ := h
  obtain ⟨k1, k2, k3, k4, k5, k6, k7, k8, k9, k10, k11, k12, k13, k14, k15⟩ := k
  exact ⟨k1.trans h1, k2.trans h2, k3.trans h3, k4.trans h4, k5.trans h5, k6.trans h6, k7.trans h7, k8.trans h8,
    k9.trans h9, k10.trans h10, k11.trans h11, k12.trans h12, k13.trans h13, k14.trans h14, k15.trans h15⟩

theorem sameApart_settings {s t : State} (h : s.SameApart t) : t.settings = s.settings := by rw [h]
theorem sameApart_refCounts {s t : State} (h : s.SameApart t) : t.refCounts = s.refCounts := by rw [h]

theorem sameApart_profileOf {s t : State} (h : s.SameApart t) (r : Record) : t.profileOf r = s.profileOf r :=
  profileOf_congr (sameApart_settings h) r

theorem update_sameApart (s : State) (id : Identity) (f : Record → Record) : s.SameApart (s.update id f) := rfl

theorem arbitrate_sameApart (s : State) : s.SameApart s.arbitrate := by
  obtain ⟨pl, ol, sl, h⟩ := arbitrate_shape s
  rw [h]

theorem request_sameApart (s : State) (l : Lane) (id : Identity) : s.SameApart (s.request l id) := by
  obtain ⟨pl, ol, sl, h⟩ := request_shape s l id
  rw [h]

theorem cancelSearch_sameApart (s : State) (id : Identity) : s.SameApart (s.cancelSearch id) := by
  obtain ⟨pl, ol, sl, h⟩ := cancelSearch_shape s id
  rw [h]

end Sys2Proof.Machine
end

section
/-! SUPPORT. The Window Pool's operations: what they leave of a record and of the state, and the grants one at a time. -/

namespace Sys2Proof.Machine

/-! ## A record and the pool -/

/-- The changes to a record that the pool's operations can make: its windows, its unplaced offsets, its alarms. -/
def Record.PoolChange (r q : Record) : Prop :=
  q = { r with held := q.held, unplaced := q.unplaced, alarms := q.alarms }

theorem poolChange_refl (r : Record) : r.PoolChange r := rfl

theorem poolChange_trans (a b c : Record) (h : a.PoolChange b) (k : b.PoolChange c) : a.PoolChange c := by
  unfold Record.PoolChange at *
  rw [k, h]

theorem poolChange_identity {r q : Record} (h : r.PoolChange q) : q.identity = r.identity := by rw [h]
theorem poolChange_position {r q : Record} (h : r.PoolChange q) : q.position = r.position := by rw [h]
theorem poolChange_profile {r q : Record} (h : r.PoolChange q) : q.profile = r.profile := by rw [h]
theorem poolChange_state {r q : Record} (h : r.PoolChange q) : q.state = r.state := by rw [h]

/-- A record with some grants. -/
def Record.GrantedFrom (r q : Record) : Prop := ∃ k, q = r.granted k

/-- A record without windows and unplaced offsets (R4). -/
def Record.emptied (r : Record) : Record := { r with held := [], unplaced := [] }

theorem granted_poolChange (r : Record) (k : Nat) : r.PoolChange (r.granted k) := rfl

@[simp] theorem granted_identity (r : Record) (k : Nat) : (r.granted k).identity = r.identity := rfl
@[simp] theorem granted_position (r : Record) (k : Nat) : (r.granted k).position = r.position := rfl
@[simp] theorem granted_profile (r : Record) (k : Nat) : (r.granted k).profile = r.profile := rfl
@[simp] theorem granted_state (r : Record) (k : Nat) : (r.granted k).state = r.state := rfl
@[simp] theorem granted_alarms (r : Record) (k : Nat) : (r.granted k).alarms = r.alarms := rfl

theorem granted_granted (r : Record) (j k : Nat) : (r.granted j).granted k = r.granted (j + k) := by
  simp [Record.granted, List.take_add, List.foldl_append]

theorem granted_of_unplaced_nil {r : Record} (h : r.unplaced = []) (k : Nat) : r.granted k = r := by
  cases r; simp_all [Record.granted]

theorem granted_of_unplaced_cons {r : Record} {o : Nat} {more : List Nat} (h : r.unplaced = o :: more) :
    r.granted 1 = { r with held := insertWindow (zeroWindow o) r.held, unplaced := more } := by
  simp [Record.granted, h, zeroWindow]

/-! ## Grants, one at a time -/

/-- What a grant, and the passing over of an entry without an unplaced offset, keep, the grants keep (R124). -/
theorem grantUpTo_induction {P : State → Prop}
    (pass : ∀ s id behind, s.waiting = id :: behind → P s → P { s with waiting := behind })
    (grant : ∀ s id behind r o more, s.waiting = id :: behind → s.recordOf id = some r → r.unplaced = o :: more →
      P s → P (s.grantHead id o more behind))
    (n : Nat) (s : State) (h : P s) : P (s.grantUpTo n) := by
  induction n generalizing s with
  | zero => exact h
  | succ n ih =>
    unfold State.grantUpTo
    split
    · exact h
    · rename_i id behind hw
      split
      · rename_i o more hu
        obtain ⟨r, hr, hu⟩ := Option.map_eq_some_iff.1 hu
        exact ih _ (grant s id behind r o more hw hr hu h)
      · exact ih _ (pass s id behind hw h)

theorem grantAll_induction {P : State → Prop}
    (pass : ∀ s id behind, s.waiting = id :: behind → P s → P { s with waiting := behind })
    (grant : ∀ s id behind r o more, s.waiting = id :: behind → s.recordOf id = some r → r.unplaced = o :: more →
      P s → P (s.grantHead id o more behind))
    (s : State) (h : P s) : P s.grantAll := grantUpTo_induction pass grant _ s h

/-- A grant to the record at the head of the waiting list, in a sound table. -/
theorem grantHead_records {s : State} (hs : s.TableSound) {id : Identity} {r : Record} {o : Nat} {more : List Nat}
    (h : s.recordOf id = some r) (hu : r.unplaced = o :: more) (behind : List Identity) :
    (s.grantHead id o more behind).records = (s.update id fun _ => r.granted 1).records := by
  rw [granted_of_unplaced_cons hu]
  simp only [State.grantHead]
  rw [update_eq_const hs h]

/-- Grants leave every record as it was but for windows at its strongest unplaced offsets (R124, R125). -/
theorem grantAll_granted {s : State} (hs : s.TableSound) :
    List.Forall₂ Record.GrantedFrom s.records s.grantAll.records := by
  refine (grantAll_induction (P := fun t => t.TableSound ∧ List.Forall₂ Record.GrantedFrom s.records t.records)
    (fun _ _ _ _ ht => ht) ?_ s ⟨hs, List.forall₂_same.2 fun r _ => ⟨0, rfl⟩⟩).2
  rintro t id behind r o more - hr hu ⟨ht, hR⟩
  have hP := grantHead_poolOnly t id o more behind
  refine ⟨tableSound_of_keys hP.identities hP.positions ht, ?_⟩
  rw [grantHead_records ht hr hu]
  have hstep : List.Forall₂ Record.GrantedFrom t.records (t.update id fun _ => r.granted 1).records :=
    forall2_update t id (fun q _ => ⟨0, rfl⟩) fun q hq hi =>
      ⟨1, by rw [eq_of_identity_eq ht hq (recordOf_some hr).1 (hi.trans (recordOf_some hr).2.symm)]⟩
  refine forall2_trans ?_ hR hstep
  rintro a b c ⟨j, rfl⟩ ⟨k, rfl⟩
  exact ⟨j + k, granted_granted a j k⟩

theorem recordOf_grantAll {s : State} (hs : s.TableSound) {id : Identity} {r : Record} (h : s.recordOf id = some r) :
    ∃ k, s.grantAll.recordOf id = some (r.granted k) := by
  obtain ⟨q, hq, k, rfl⟩ := forall2_recordOf (by rintro r q ⟨k, rfl⟩; rfl) (grantAll_granted hs) h
  exact ⟨k, hq⟩

/-- A record that lacks no offset is not changed by grants. -/
theorem recordOf_grantAll_of_placed {s : State} (hs : s.TableSound) {id : Identity} {r : Record}
    (h : s.recordOf id = some r) (hu : r.unplaced = []) : s.grantAll.recordOf id = some r := by
  obtain ⟨k, hk⟩ := recordOf_grantAll hs h
  rwa [granted_of_unplaced_nil hu] at hk

/-- Nobody joins the waiting list by grants (R124). -/
theorem grantAll_waiting_subset (s : State) : s.grantAll.waiting ⊆ s.waiting := by
  refine grantAll_induction (P := fun t => t.waiting ⊆ s.waiting) ?_ ?_ s (List.Subset.refl _)
  · intro t id behind hw ht
    exact fun j hj => ht (hw ▸ List.mem_cons_of_mem _ hj)
  · intro t id behind r o more hw _ _ ht j hj
    apply ht
    rw [hw]
    simp only [State.grantHead] at hj
    split at hj
    · exact List.mem_cons_of_mem _ hj
    · rcases List.mem_append.1 hj with hj | hj
      · exact List.mem_cons_of_mem _ hj
      · simp_all

theorem grantAll_summary (s : State) : s.grantAll.summary = s.summary :=
  grantAll_induction (P := fun t => t.summary = s.summary) (fun _ _ _ _ h => h) (fun _ _ _ _ _ _ _ _ _ h => h) s rfl

/-- Of the part tallies grants touch the tally of grants. -/
theorem grantAll_part (s : State) : s.grantAll.part = { s.part with grants := s.grantAll.part.grants } :=
  grantAll_induction (P := fun t => t.part = { s.part with grants := t.part.grants }) (fun _ _ _ _ h => h)
    (fun t _ _ _ _ _ _ _ _ h => by simp only [State.grantHead]; rw [h]) s rfl

/-- With no window free, or with no record waiting, there is no grant. -/
theorem grantAll_eq_self {s : State} (h : s.free = 0 ∨ s.waiting = []) : s.grantAll = s := by
  rcases h with h | h
  · simp [State.grantAll, h, State.grantUpTo]
  · unfold State.grantAll
    cases s.free with
    | zero => rfl
    | succ n => simp [State.grantUpTo, h]

/-- With a window free the grants begin with one to the head of the waiting list (R124). -/
theorem grantAll_eq_grantHead {s : State} {id : Identity} {behind : List Identity} {r : Record} {o : Nat}
    {more : List Nat} (hf : 0 < s.free) (hw : s.waiting = id :: behind) (hr : s.recordOf id = some r)
    (hu : r.unplaced = o :: more) : s.grantAll = (s.grantHead id o more behind).grantAll := by
  obtain ⟨n, hn⟩ := Nat.exists_eq_succ_of_ne_zero hf.ne'
  unfold State.grantAll
  rw [hn, State.grantUpTo]
  simp [hw, hr, hu, hn]

/-! ## What the pool's operations leave -/

/-- Two states between which the pool's operations can lie: like `PoolOnly`, with the tables compared record by record
and of the part tallies the grants alone. -/
structure PoolStep (s t : State) : Prop where
  apart : s.SameApart t
  priorityLane : t.priorityLane = s.priorityLane
  ordinaryLane : t.ordinaryLane = s.ordinaryLane
  slots : t.slots = s.slots
  records : List.Forall₂ Record.PoolChange s.records t.records
  part : t.part = { s.part with grants := t.part.grants }
  grants : s.part.grants ≤ 65535 → t.part.grants ≤ 65535

theorem PoolStep.refl (s : State) : PoolStep s s :=
  ⟨rfl, rfl, rfl, rfl, List.forall₂_same.2 fun r _ => poolChange_refl r, rfl, id⟩

theorem PoolStep.trans {s t u : State} (h : PoolStep s t) (k : PoolStep t u) : PoolStep s u where
  apart := sameApart_trans h.apart k.apart
  priorityLane := k.priorityLane.trans h.priorityLane
  ordinaryLane := k.ordinaryLane.trans h.ordinaryLane
  slots := k.slots.trans h.slots
  records := forall2_trans poolChange_trans h.records k.records
  part := by rw [k.part, h.part]
  grants := fun hs => k.grants (h.grants hs)

/-- The pool's operations are updates of one record, and changes of the free count, the waiting list and the summary. -/
theorem PoolStep.update (s : State) (id : Identity) {f : Record → Record} (hf : ∀ r, Record.PoolChange r (f r)) (free : Nat)
    (waiting : List Identity) (summary : EventSet) :
    PoolStep s { s.update id f with free := free, waiting := waiting, summary := summary } :=
  ⟨rfl, rfl, rfl, rfl, forall2_update s id (fun r _ => poolChange_refl r) fun r _ _ => hf r, rfl, fun hs => hs⟩

theorem PoolStep.counts (s : State) (free : Nat) (waiting : List Identity) :
    PoolStep s { s with free := free, waiting := waiting } :=
  ⟨rfl, rfl, rfl, rfl, List.forall₂_same.2 fun r _ => poolChange_refl r, rfl, fun hs => hs⟩

theorem grantHead_poolStep (s : State) (id : Identity) (o : Nat) (more : List Nat) (behind : List Identity) :
    PoolStep s (s.grantHead id o more behind) :=
  ⟨rfl, rfl, rfl, rfl, forall2_update s id (fun r _ => poolChange_refl r) fun _ _ _ => rfl, rfl,
    fun _ => countUp_le _⟩

theorem grantAll_poolStep (s : State) : PoolStep s s.grantAll :=
  grantAll_induction (P := PoolStep s) (fun t _ behind _ h => h.trans (PoolStep.counts t t.free behind))
    (fun _ _ _ _ _ _ _ _ _ h => h.trans (grantHead_poolStep _ _ _ _ _)) s (PoolStep.refl s)

/-- An alarm writes one alarm set over those it finds, or nothing (R8). -/
theorem raiseAlarm_poolStep (s : State) (id : Identity) (k : Alarm) : PoolStep s (s.raiseAlarm id k) := by
  unfold State.raiseAlarm
  split
  · split
    · exact PoolStep.refl s
    · exact PoolStep.update s id (f := fun r => { r with alarms := r.alarms ||| k.flag }) (fun _ => rfl) s.free s.waiting _
  · exact PoolStep.refl s

theorem returnWindows_poolStep (s : State) (id : Identity) : PoolStep s (s.returnWindows id) := by
  unfold State.returnWindows
  split
  · exact PoolStep.update s id (f := fun r => { r with held := [], unplaced := [] }) (fun _ => rfl) _ _ s.summary
  · exact PoolStep.refl s

theorem releaseAll_poolStep (s : State) (id : Identity) : PoolStep s (s.releaseAll id) :=
  (returnWindows_poolStep s id).trans (grantAll_poolStep _)

theorem waitFor_poolStep (s : State) (id : Identity) (offsets : List Nat) : PoolStep s (s.waitFor id offsets) :=
  (PoolStep.update s id (f := fun r => { r with unplaced := offsets }) (fun _ => rfl) s.free _ s.summary).trans
    (raiseAlarm_poolStep _ id .windowShort)

theorem claimProvisional_poolStep (s : State) (id : Identity) (o : Nat) : PoolStep s (s.claimProvisional id o) := by
  unfold State.claimProvisional
  split
  · exact waitFor_poolStep s id [o]
  · exact PoolStep.update s id (f := fun r => { r with held := [zeroWindow o] }) (fun _ => rfl) _ s.waiting s.summary

/-- What a pool operation leaves of a record's keys. -/
theorem PoolStep.identities {s t : State} (h : PoolStep s t) :
    t.records.map (·.identity) = s.records.map (·.identity) :=
  forall2_map_eq (·.identity) (fun _ _ => poolChange_identity) h.records

theorem PoolStep.positions {s t : State} (h : PoolStep s t) :
    t.records.map (·.position) = s.records.map (·.position) :=
  forall2_map_eq (·.position) (fun _ _ => poolChange_position) h.records

theorem PoolStep.tableSound {s t : State} (h : PoolStep s t) (hs : s.TableSound) : t.TableSound :=
  tableSound_of_keys h.identities h.positions hs

theorem PoolStep.recordOf {s t : State} (h : PoolStep s t) {id : Identity} {r : Record} (hr : s.recordOf id = some r) :
    ∃ q, t.recordOf id = some q ∧ r.PoolChange q :=
  forall2_recordOf (fun _ _ => poolChange_identity) h.records hr

/-! ## Alarms -/

/-- A record with a kind added to its alarm set (R8). -/
def Record.withAlarm (k : Alarm) (r : Record) : Record := { r with alarms := r.alarms ||| k.flag }

@[simp] theorem withAlarm_identity (k : Alarm) (r : Record) : (r.withAlarm k).identity = r.identity := rfl
@[simp] theorem withAlarm_position (k : Alarm) (r : Record) : (r.withAlarm k).position = r.position := rfl
@[simp] theorem withAlarm_profile (k : Alarm) (r : Record) : (r.withAlarm k).profile = r.profile := rfl
@[simp] theorem withAlarm_state (k : Alarm) (r : Record) : (r.withAlarm k).state = r.state := rfl

/-- A kind that the alarm set holds stays once (R8). -/
theorem withAlarm_of_holds {k : Alarm} {r : Record} (h : holdsAlarm r.alarms k = true) : r.withAlarm k = r := by
  have hor : r.alarms ||| k.flag = r.alarms := by
    revert h
    generalize r.alarms = a
    cases k <;> simp only [holdsAlarm, Alarm.flag] <;> revert a <;> decide
  simp [Record.withAlarm, hor]

/-- An alarm is an update of the record and, when the record's set gains the kind, RECORD_ALARM (R8). -/
theorem raiseAlarm_of_some {s : State} (hs : s.TableSound) {id : Identity} {r : Record} (h : s.recordOf id = some r)
    (k : Alarm) : s.raiseAlarm id k =
      { s.update id (Record.withAlarm k) with
        summary := if holdsAlarm r.alarms k then s.summary else s.summary ||| EventKind.recordAlarm.flag } := by
  unfold State.raiseAlarm
  rw [h]
  dsimp only
  split
  · rename_i hold
    rw [update_eq_self (f := Record.withAlarm k)]
    intro q hq hi
    rw [eq_of_identity_eq hs hq (recordOf_some h).1 (hi.trans (recordOf_some h).2.symm)]
    exact withAlarm_of_holds hold
  · rfl

/-- What the identity index finds after an alarm. -/
theorem recordOf_raiseAlarm_self {s : State} {id : Identity} {r : Record} (h : s.recordOf id = some r) (k : Alarm) :
    (s.raiseAlarm id k).recordOf id = some (r.withAlarm k) := by
  unfold State.raiseAlarm
  rw [h]
  dsimp only
  split
  · rename_i hold
    rw [h, withAlarm_of_holds hold]
  · exact recordOf_update_self (f := Record.withAlarm k) (fun _ => rfl) h

theorem recordOf_raiseAlarm_other (s : State) {id j : Identity} (hne : j ≠ id) (k : Alarm) :
    (s.raiseAlarm id k).recordOf j = s.recordOf j := by
  unfold State.raiseAlarm
  split
  · split
    · rfl
    · exact recordOf_update_other s hne (f := Record.withAlarm k) fun _ => rfl
  · rfl

end Sys2Proof.Machine
end

section
/-! SUPPORT. The search unit: who stands in it after each of its operations, and the arbiter. -/

namespace Sys2Proof.Machine

/-! ## Who stands in the search unit -/

/-- The identities of the records that may stand in the search unit: those in SETTLING or CONVERGED (R95). -/
def State.cancelling (s : State) : List Identity := (s.records.filter fun r => cancels r.state).map (·.identity)

theorem mem_cancelling {s : State} {id : Identity} :
    id ∈ s.cancelling ↔ ∃ r ∈ s.records, cancels r.state = true ∧ r.identity = id := by
  simp [State.cancelling, and_assoc]

theorem mem_searching {s : State} {id : Identity} :
    id ∈ s.searching ↔ (∃ sl ∈ s.slots, sl.identity = id) ∨ id ∈ s.priorityLane ∨ id ∈ s.ordinaryLane := by
  simp [State.searching]

/-- A record without search stands in no slot and in no lane (R95). -/
theorem searchStatus_eq_noSearch_iff {s : State} {id : Identity} : s.searchStatus id = .noSearch ↔ id ∉ s.searching := by
  rw [mem_searching]
  unfold State.searchStatus
  split
  · rename_i h
    obtain ⟨sl, hsl, hi⟩ := List.any_eq_true.1 h
    simp only [reduceCtorEq, false_iff, not_not]
    exact .inl ⟨sl, hsl, by simpa using hi⟩
  · rename_i h
    have hslots : ¬∃ sl ∈ s.slots, sl.identity = id := by simpa using h
    split
    · rename_i hp
      simp [List.contains_iff_mem.1 hp]
    · rename_i hp
      split
      · rename_i ho
        simp [List.contains_iff_mem.1 ho]
      · rename_i ho
        simp_all

theorem searching_congr {s t : State} (hp : t.priorityLane = s.priorityLane) (ho : t.ordinaryLane = s.ordinaryLane)
    (hsl : t.slots = s.slots) : t.searching = s.searching := by simp [State.searching, hp, ho, hsl]

theorem searchStatus_congr {s t : State} (hp : t.priorityLane = s.priorityLane) (ho : t.ordinaryLane = s.ordinaryLane)
    (hsl : t.slots = s.slots) (id : Identity) : t.searchStatus id = s.searchStatus id := by
  simp [State.searchStatus, hp, ho, hsl]

/-! ## The arbiter -/

@[simp] theorem freshSlot_identity (id : Identity) : (freshSlot id).identity = id := rfl

/-- The arbiter moves entries from the lanes to the slots, and loses and adds none (R97). -/
theorem fillSlots_searching (n : Nat) (s : State) : (s.fillSlots n).searching.Perm s.searching := by
  induction n generalizing s with
  | zero => exact .refl _
  | succ n ih =>
    unfold State.fillSlots
    split
    · rename_i id rest hp
      refine (ih _).trans ?_
      simp [State.searching, hp]
    · rename_i id rest hp ho
      refine (ih _).trans ?_
      simp [State.searching, hp, ho]
    · exact .refl _

theorem arbitrate_searching (s : State) : s.arbitrate.searching.Perm s.searching := fillSlots_searching _ s

theorem fillSlots_length (n : Nat) (s : State) :
    (s.fillSlots n).slots.length ≤ s.slots.length + n ∧
      ((s.fillSlots n).slots.length = s.slots.length + n ∨
        (s.fillSlots n).priorityLane = [] ∧ (s.fillSlots n).ordinaryLane = []) := by
  induction n generalizing s with
  | zero => exact ⟨le_refl _, .inl rfl⟩
  | succ n ih =>
    unfold State.fillSlots
    split
    · rename_i id rest _
      have := ih { s with priorityLane := rest, slots := s.slots ++ [freshSlot id] }
      simp only [List.length_append, List.length_singleton] at this
      exact ⟨by omega, this.2.imp_left fun h => by omega⟩
    · rename_i id rest _ _
      have := ih { s with ordinaryLane := rest, slots := s.slots ++ [freshSlot id] }
      simp only [List.length_append, List.length_singleton] at this
      exact ⟨by omega, this.2.imp_left fun h => by omega⟩
    · rename_i hp ho
      exact ⟨Nat.le_add_right _ _, .inr ⟨hp, ho⟩⟩

/-- The slots that the arbiter fills are fresh, and the others as they were (R96, R97). -/
theorem fillSlots_slots (n : Nat) (s : State) :
    ∃ ids : List Identity, (s.fillSlots n).slots = s.slots ++ ids.map freshSlot := by
  induction n generalizing s with
  | zero => exact ⟨[], by simp [State.fillSlots]⟩
  | succ n ih =>
    unfold State.fillSlots
    split
    · rename_i id rest _
      obtain ⟨ids, h⟩ := ih { s with priorityLane := rest, slots := s.slots ++ [freshSlot id] }
      exact ⟨id :: ids, by simp [h]⟩
    · rename_i id rest _ _
      obtain ⟨ids, h⟩ := ih { s with ordinaryLane := rest, slots := s.slots ++ [freshSlot id] }
      exact ⟨id :: ids, by simp [h]⟩
    · exact ⟨[], by simp⟩

theorem arbitrate_slots (s : State) : ∃ ids : List Identity, s.arbitrate.slots = s.slots ++ ids.map freshSlot :=
  fillSlots_slots _ s

/-- The arbiter reads the lanes and the slots only. -/
theorem fillSlots_congr (n : Nat) {s t : State} (hp : t.priorityLane = s.priorityLane)
    (ho : t.ordinaryLane = s.ordinaryLane) (hsl : t.slots = s.slots) :
    (t.fillSlots n).priorityLane = (s.fillSlots n).priorityLane ∧
      (t.fillSlots n).ordinaryLane = (s.fillSlots n).ordinaryLane ∧ (t.fillSlots n).slots = (s.fillSlots n).slots := by
  induction n generalizing s t with
  | zero => exact ⟨hp, ho, hsl⟩
  | succ n ih =>
    unfold State.fillSlots
    rw [hp, ho]
    split
    · exact ih rfl rfl (by simp [hsl])
    · exact ih rfl rfl (by simp [hsl])
    · exact ⟨hp, ho, hsl⟩

theorem arbitrate_congr {s t : State} (hp : t.priorityLane = s.priorityLane) (ho : t.ordinaryLane = s.ordinaryLane)
    (hsl : t.slots = s.slots) :
    t.arbitrate.priorityLane = s.arbitrate.priorityLane ∧ t.arbitrate.ordinaryLane = s.arbitrate.ordinaryLane ∧
      t.arbitrate.slots = s.arbitrate.slots := by
  unfold State.arbitrate
  rw [hsl]
  exact fillSlots_congr _ hp ho hsl

/-- The arbiter's work as a change of the lanes and slots alone. -/
theorem arbitrate_eq (s : State) : s.arbitrate =
    { s with
      priorityLane := s.arbitrate.priorityLane, ordinaryLane := s.arbitrate.ordinaryLane, slots := s.arbitrate.slots } := by
  obtain ⟨pl, ol, sl, h⟩ := arbitrate_shape s
  rw [h]

theorem request_eq (s : State) (l : Lane) (id : Identity) : s.request l id =
    { s with
      priorityLane := (s.request l id).priorityLane, ordinaryLane := (s.request l id).ordinaryLane
      slots := (s.request l id).slots } := by
  obtain ⟨pl, ol, sl, h⟩ := request_shape s l id
  rw [h]

theorem cancelSearch_eq (s : State) (id : Identity) : s.cancelSearch id =
    { s with
      priorityLane := (s.cancelSearch id).priorityLane, ordinaryLane := (s.cancelSearch id).ordinaryLane
      slots := (s.cancelSearch id).slots } := by
  obtain ⟨pl, ol, sl, h⟩ := cancelSearch_shape s id
  rw [h]

@[simp] theorem arbitrate_records (s : State) : s.arbitrate.records = s.records := by rw [arbitrate_eq]
@[simp] theorem arbitrate_free (s : State) : s.arbitrate.free = s.free := by rw [arbitrate_eq]
@[simp] theorem arbitrate_waiting (s : State) : s.arbitrate.waiting = s.waiting := by rw [arbitrate_eq]
@[simp] theorem arbitrate_summary (s : State) : s.arbitrate.summary = s.summary := by rw [arbitrate_eq]
@[simp] theorem arbitrate_part (s : State) : s.arbitrate.part = s.part := by rw [arbitrate_eq]
@[simp] theorem arbitrate_settings (s : State) : s.arbitrate.settings = s.settings := by rw [arbitrate_eq]
@[simp] theorem arbitrate_refCounts (s : State) : s.arbitrate.refCounts = s.refCounts := by rw [arbitrate_eq]
@[simp] theorem request_records (s : State) (l : Lane) (id : Identity) : (s.request l id).records = s.records := by
  rw [request_eq]
@[simp] theorem request_free (s : State) (l : Lane) (id : Identity) : (s.request l id).free = s.free := by
  rw [request_eq]
@[simp] theorem request_waiting (s : State) (l : Lane) (id : Identity) : (s.request l id).waiting = s.waiting := by
  rw [request_eq]
@[simp] theorem request_summary (s : State) (l : Lane) (id : Identity) : (s.request l id).summary = s.summary := by
  rw [request_eq]
@[simp] theorem request_part (s : State) (l : Lane) (id : Identity) : (s.request l id).part = s.part := by
  rw [request_eq]
@[simp] theorem request_settings (s : State) (l : Lane) (id : Identity) : (s.request l id).settings = s.settings := by
  rw [request_eq]
@[simp] theorem request_refCounts (s : State) (l : Lane) (id : Identity) : (s.request l id).refCounts = s.refCounts := by
  rw [request_eq]
@[simp] theorem cancelSearch_records (s : State) (id : Identity) : (s.cancelSearch id).records = s.records := by
  rw [cancelSearch_eq]
@[simp] theorem cancelSearch_free (s : State) (id : Identity) : (s.cancelSearch id).free = s.free := by
  rw [cancelSearch_eq]
@[simp] theorem cancelSearch_waiting (s : State) (id : Identity) : (s.cancelSearch id).waiting = s.waiting := by
  rw [cancelSearch_eq]
@[simp] theorem cancelSearch_summary (s : State) (id : Identity) : (s.cancelSearch id).summary = s.summary := by
  rw [cancelSearch_eq]
@[simp] theorem cancelSearch_part (s : State) (id : Identity) : (s.cancelSearch id).part = s.part := by
  rw [cancelSearch_eq]
@[simp] theorem cancelSearch_settings (s : State) (id : Identity) : (s.cancelSearch id).settings = s.settings := by
  rw [cancelSearch_eq]
@[simp] theorem cancelSearch_refCounts (s : State) (id : Identity) : (s.cancelSearch id).refCounts = s.refCounts := by
  rw [cancelSearch_eq]

/-! ## Requests and ends -/

/-- A record that leaves its lane and its slot stands nowhere, and the others stand where they were (R99, R111). -/
theorem searching_dropped (s : State) (id : Identity) :
    ((s.leaveLanes id).freeSlot id).searching = s.searching.filter (· != id) := by
  simp [State.searching, State.freeSlot, State.leaveLanes, List.filter_append, List.filter_map, Function.comp_def]

theorem mem_searching_cancelSearch {s : State} {id j : Identity} :
    j ∈ (s.cancelSearch id).searching ↔ j ∈ s.searching ∧ j ≠ id := by
  unfold State.cancelSearch
  rw [(arbitrate_searching _).mem_iff, searching_dropped]
  simp

theorem searchStatus_cancelSearch (s : State) (id : Identity) : (s.cancelSearch id).searchStatus id = .noSearch := by
  rw [searchStatus_eq_noSearch_iff, mem_searching_cancelSearch]
  simp

theorem searching_joinOrdinary (s : State) (id : Identity) :
    (State.searching { s with ordinaryLane := s.ordinaryLane ++ [id] }).Perm (id :: s.searching) := by
  simp only [State.searching, ← List.append_assoc]
  exact List.perm_append_singleton _ _

theorem searching_joinPriority (s : State) (id : Identity) :
    (State.searching { s with priorityLane := s.priorityLane ++ [id] }).Perm (id :: s.searching) := by
  simp only [State.searching, List.append_assoc, List.singleton_append]
  rw [← List.append_assoc, ← List.append_assoc]
  exact List.perm_middle

/-- A record that moves from the ordinary to the priority lane stands once in the search unit, as before (R98). -/
theorem searching_changeLane {s : State} (hnd : s.searching.Nodup) {id : Identity} (h : id ∈ s.ordinaryLane) :
    (State.searching { s with
      ordinaryLane := s.ordinaryLane.filter (· != id), priorityLane := s.priorityLane ++ [id] }).Perm s.searching := by
  have hnd' : s.ordinaryLane.Nodup := (List.nodup_append.1 hnd).2.1
  rw [← hnd'.erase_eq_filter id]
  simp only [State.searching, List.append_assoc, List.singleton_append]
  exact ((List.perm_cons_erase h).symm.append_left _).append_left _

/-- What a request does: the record joins a lane, or moves to the priority lane, and the arbiter acts; or nothing
(R98). -/
theorem request_cases (s : State) (l : Lane) (id : Identity) :
    (s.searchStatus id = .noSearch ∧ l = .ordinary ∧
      s.request l id = State.arbitrate { s with ordinaryLane := s.ordinaryLane ++ [id] }) ∨
    (s.searchStatus id = .noSearch ∧ l = .priority ∧
      s.request l id = State.arbitrate { s with priorityLane := s.priorityLane ++ [id] }) ∨
    (s.searchStatus id = .waitingOrdinary ∧ id ∈ s.ordinaryLane ∧
      s.request l id = State.arbitrate { s with
        ordinaryLane := s.ordinaryLane.filter (· != id), priorityLane := s.priorityLane ++ [id] }) ∨
    (id ∈ s.searching ∧ s.request l id = s) := by
  unfold State.request
  split
  · rename_i h
    exact .inl ⟨h, rfl, rfl⟩
  · rename_i h
    exact .inr (.inl ⟨h, rfl, rfl⟩)
  · rename_i h
    have hmem : id ∈ s.ordinaryLane := by
      unfold State.searchStatus at h
      split at h
      · simp at h
      · split at h
        · simp at h
        · simpa using h
    exact .inr (.inr (.inl ⟨h, hmem, rfl⟩))
  · rename_i l _ _ h1 h2 h3
    refine .inr (.inr (.inr ⟨?_, rfl⟩))
    by_contra hj
    cases l
    · exact h1 (searchStatus_eq_noSearch_iff.2 hj) rfl
    · exact h2 (searchStatus_eq_noSearch_iff.2 hj) rfl

/-- A request puts the record somewhere in the search unit and leaves the others in it (R98). -/
theorem mem_searching_request {s : State} {l : Lane} {id j : Identity} :
    j ∈ (s.request l id).searching ↔ j ∈ s.searching ∨ j = id := by
  rcases request_cases s l id with ⟨-, -, h⟩ | ⟨-, -, h⟩ | ⟨-, hmem, h⟩ | ⟨hmem, h⟩ <;> rw [h]
  · rw [(arbitrate_searching _).mem_iff, (searching_joinOrdinary s id).mem_iff, List.mem_cons, or_comm]
  · rw [(arbitrate_searching _).mem_iff, (searching_joinPriority s id).mem_iff, List.mem_cons, or_comm]
  · rw [(arbitrate_searching _).mem_iff]
    by_cases hj : j = id
    · simp [mem_searching, hj]
    · simp [mem_searching, hj]
  · exact ⟨.inl, fun hj => hj.elim (fun hj => hj) fun hj => hj ▸ hmem⟩

/-- A request reads the lanes and the slots only. -/
theorem request_congr (l : Lane) (id : Identity) {s t : State} (hp : t.priorityLane = s.priorityLane)
    (ho : t.ordinaryLane = s.ordinaryLane) (hsl : t.slots = s.slots) :
    (t.request l id).priorityLane = (s.request l id).priorityLane ∧
      (t.request l id).ordinaryLane = (s.request l id).ordinaryLane ∧ (t.request l id).slots = (s.request l id).slots := by
  unfold State.request
  rw [searchStatus_congr hp ho hsl]
  split
  · exact arbitrate_congr hp (by simp [ho]) hsl
  · exact arbitrate_congr (by simp [hp]) ho hsl
  · exact arbitrate_congr (by simp [hp]) (by simp [ho]) hsl
  · exact ⟨hp, ho, hsl⟩

theorem cancelSearch_congr (id : Identity) {s t : State} (hp : t.priorityLane = s.priorityLane)
    (ho : t.ordinaryLane = s.ordinaryLane) (hsl : t.slots = s.slots) :
    (t.cancelSearch id).priorityLane = (s.cancelSearch id).priorityLane ∧
      (t.cancelSearch id).ordinaryLane = (s.cancelSearch id).ordinaryLane ∧
      (t.cancelSearch id).slots = (s.cancelSearch id).slots :=
  arbitrate_congr (by simp [State.leaveLanes, State.freeSlot, hp]) (by simp [State.leaveLanes, State.freeSlot, ho])
    (by simp [State.leaveLanes, State.freeSlot, hsl])

/-! ## The search unit's conditions -/

/-- The conditions of R95 without the arbiter's: at most four slots, no record twice, cancelling records only. -/
structure State.SearchCore (s : State) : Prop where
  slots : s.slots.length ≤ 4
  once : s.searching.Nodup
  cancelling : s.searching ⊆ s.cancelling

theorem searchCore_of_sound {s : State} (h : s.SearchSound) : s.SearchCore := ⟨h.1, h.2.1, h.2.2.1⟩

/-- The arbiter restores what R97 asks of the lanes. -/
theorem arbitrate_searchSound {s : State} (h : s.SearchCore) : s.arbitrate.SearchSound := by
  have hlen := fillSlots_length (4 - s.slots.length) s
  have h4 := h.slots
  refine ⟨?_, (arbitrate_searching s).nodup_iff.2 h.once, ?_, fun hlt => ?_⟩
  · simp only [State.arbitrate]; omega
  · rw [arbitrate_records]
    exact fun j hj => h.cancelling ((arbitrate_searching s).mem_iff.1 hj)
  · simp only [State.arbitrate] at hlt ⊢
    rcases hlen.2 with he | he
    · omega
    · exact he

theorem request_searchSound {s : State} (h : s.SearchSound) (l : Lane) {id : Identity} (hid : id ∈ s.cancelling) :
    (s.request l id).SearchSound := by
  have hcore := searchCore_of_sound h
  have hcons : id :: s.searching ⊆ s.cancelling := List.cons_subset.2 ⟨hid, hcore.cancelling⟩
  have hnd (hst : s.searchStatus id = .noSearch) : (id :: s.searching).Nodup :=
    List.nodup_cons.2 ⟨searchStatus_eq_noSearch_iff.1 hst, hcore.once⟩
  have core {u : State} {ids : List Identity} (hr : u.records = s.records) (hs : u.slots = s.slots)
      (hp : u.searching.Perm ids) (hnd : ids.Nodup) (hsub : ids ⊆ s.cancelling) : u.SearchCore :=
    { slots := hs ▸ hcore.slots
      once := hp.nodup_iff.2 hnd
      cancelling := fun j hj => by
        have : u.cancelling = s.cancelling := by simp [State.cancelling, hr]
        exact this ▸ hsub (hp.mem_iff.1 hj) }
  rcases request_cases s l id with ⟨hst, -, he⟩ | ⟨hst, -, he⟩ | ⟨-, hmem, he⟩ | ⟨-, he⟩ <;> rw [he]
  · exact arbitrate_searchSound (core rfl rfl (searching_joinOrdinary s id) (hnd hst) hcons)
  · exact arbitrate_searchSound (core rfl rfl (searching_joinPriority s id) (hnd hst) hcons)
  · exact arbitrate_searchSound (core rfl rfl (searching_changeLane hcore.once hmem) hcore.once hcore.cancelling)
  · exact h

/-- A search that is dropped leaves the others where they stand; the records of the others must still be cancelling. -/
theorem cancelSearch_searchSound {s : State} {id : Identity} (h4 : s.slots.length ≤ 4) (hnd : s.searching.Nodup)
    (hsub : ∀ j ∈ s.searching, j ≠ id → j ∈ s.cancelling) : (s.cancelSearch id).SearchSound := by
  refine arbitrate_searchSound ⟨?_, ?_, ?_⟩
  · exact (List.length_filter_le _ _).trans h4
  · rw [searching_dropped]
    exact hnd.filter _
  · rw [searching_dropped]
    intro j hj
    obtain ⟨hj, hne⟩ := List.mem_filter.1 hj
    exact hsub j hj (by simpa using hne)

end Sys2Proof.Machine
end

section
/-! SUPPORT. What the changes of one record keep: its keys and tallies whatever the table, and the conditions of
Safety.lean on its fields where its profile is in range. -/

namespace Sys2Proof.Machine

/-! ## The conditions on a record, spelled out -/

theorem stateSound_iff {r : Record} : r.StateSound ↔
    (r.resume.isSome = true ↔ r.state = .bypass) ∧
      ((r.state = .transparent ∨ r.state = .lapsed) → r.held = [] ∧ r.unplaced = []) := by
  simp only [Record.StateSound, Record.stateSound, decide_eq_true_eq]

theorem countsSound_iff {r : Record} : r.CountsSound ↔
    r.passCount ≤ 4 ∧ r.failCount < 8 ∧ r.toneCount ≤ 50 ∧ r.quietCount < 32 ∧
      (r.state = .settling ∨ (r.state = .bypass ∧ r.resume = some .settling) → r.passCount < 4 ∧ r.failCount = 0) ∧
      (cancels r.state = true → r.toneCount < 50) ∧
      (r.state = .transparent → r.passCount = 0 ∧ r.failCount = 0 ∧ r.toneCount = 0 ∧ r.quietCount = 0) ∧
      r.idleCount ≤ 75000 ∧ (r.state ≠ .lapsed → r.idleCount < 75000) ∧
      r.nearHold ≤ 4095 ∧ r.background ≤ 8191 ∧ r.noise ≠ 0 := by
  simp only [Record.CountsSound, Record.countsSound, decide_eq_true_eq]

theorem levelsSound_iff {p : Profile} {r : Record} : r.LevelsSound p ↔
    (p.gmin ≤ r.gainIn ∧ r.gainIn ≤ p.gmax) ∧ (p.gmin ≤ r.gainOut ∧ r.gainOut ≤ p.gmax) ∧
      (∀ v ∈ r.padIn, 1024 ≤ v ∧ v ≤ 16383) ∧ (∀ v ∈ r.padOut, 1024 ≤ v ∧ v ≤ 16383) := by
  simp only [Record.LevelsSound, Record.levelsSound, decide_eq_true_eq]

theorem modelSound_iff {p : Profile} {r : Record} : r.ModelSound p ↔
    heldSound r.held ∧ r.held.length + r.unplaced.length ≤ p.windowLimit ∧
      (r.held.map (·.offset) ++ r.unplaced).Pairwise (fun a b => windowsOverlap a b = false) ∧
      (∀ o ∈ r.unplaced, o ≤ 960) ∧ r.history.length = 1024 := by
  simp only [Record.ModelSound, Record.modelSound, decide_eq_true_eq]

theorem talliesSound_iff {t : Tallies} : t.Sound ↔
    t.convergedBlocks ≤ 65535 ∧ t.doubleTalkBlocks ≤ 65535 ∧ t.suppressedBlocks ≤ 65535 ∧ t.clipBlocks ≤ 65535 ∧
      t.searchesCompleted ≤ 65535 ∧ t.pathChanges ≤ 65535 ∧ t.divergences ≤ 65535 := by
  simp only [Tallies.Sound, Tallies.sound, decide_eq_true_eq]

theorem partSound_iff {t : PartTallies} : t.Sound ↔
    t.attachRefusals ≤ 65535 ∧ t.lineFaults ≤ 65535 ∧ t.overruns ≤ 65535 ∧ t.inconclusiveSearches ≤ 65535 ∧
      t.grants ≤ 65535 := by
  simp only [PartTallies.Sound, PartTallies.sound, decide_eq_true_eq]

theorem slotSound_iff {sl : Slot} : sl.Sound ↔
    sl.correlation.length = 1024 ∧ sl.qualifying < 2048 ∧ sl.elapsed < 16000 := by
  simp only [Slot.Sound, Slot.sound, decide_eq_true_eq]

theorem profileInRange_iff {p : Profile} : p.InRange ↔
    p.provisionalOffset ≤ 960 ∧ p.windowLimit ≤ 3 ∧ (1 ≤ p.stepExponent ∧ p.stepExponent ≤ 8) ∧
      (1 ≤ p.regularisation ∧ p.regularisation ≤ 65535) ∧ p.referenceFloor ≤ 8191 ∧
      (1 ≤ p.speechFloor ∧ p.speechFloor ≤ 8191) ∧ (1 ≤ p.doubleTalkShift ∧ p.doubleTalkShift ≤ 3) ∧
      p.nearHold ≤ 4095 ∧ p.suppressionDepth ≤ 6 ∧ (1024 ≤ p.padIn ∧ p.padIn ≤ 16383) ∧
      (1024 ≤ p.padOut ∧ p.padOut ≤ 16383) ∧ (p.bandLow ≤ p.bandHigh ∧ p.bandHigh ≤ 32767) ∧
      (1024 ≤ p.gmin ∧ p.gmin ≤ p.gmax ∧ p.gmax ≤ 16383) ∧ (1 ≤ p.toneFloor ∧ p.toneFloor ≤ 8191) ∧
      p.idleLimit ≤ 600 := by
  simp only [Profile.InRange, Profile.inRange, decide_eq_true_eq]

theorem inRange_gmin_le_gmax {p : Profile} (h : p.InRange) : p.gmin ≤ p.gmax := by
  obtain ⟨-, -, -, -, -, -, -, -, -, -, -, -, hg, -⟩ := profileInRange_iff.1 h
  exact hg.2.1

theorem inRange_nearHold {p : Profile} (h : p.InRange) : p.nearHold ≤ 4095 := by
  obtain ⟨-, -, -, -, -, -, -, hn, -⟩ := profileInRange_iff.1 h
  exact hn

theorem inRange_idleLimit {p : Profile} (h : p.InRange) : p.idleLimit ≤ 600 := by
  obtain ⟨-, -, -, -, -, -, -, -, -, -, -, -, -, -, hi⟩ := profileInRange_iff.1 h
  exact hi

theorem inRange_windowLimit {p : Profile} (h : p.InRange) : p.windowLimit ≤ 3 := by
  obtain ⟨-, hw, -⟩ := profileInRange_iff.1 h
  exact hw

theorem inRange_provisionalOffset {p : Profile} (h : p.InRange) : p.provisionalOffset ≤ 960 :=
  (profileInRange_iff.1 h).1

theorem cancels_iff {st : RecordState} : cancels st = true ↔ st = .settling ∨ st = .converged := by
  cases st <;> simp [cancels]

/-! ## What a change of a record keeps -/

/-- A record's four talk counts sum to its live frame count (R75). -/
abbrev Record.TalkCounted (r : Record) : Prop :=
  r.block.idleFrames + r.block.farFrames + r.block.nearFrames + r.block.doubleFrames = r.block.live

/-- What every change of a record keeps, whatever the rest of the part: its identity, its tallies 16-bit counts and the
sum of its talk counts. -/
structure Record.Mild (r q : Record) : Prop where
  identity : q.identity = r.identity
  tallies : r.tallies.Sound → q.tallies.Sound
  talkCounts : r.TalkCounted → q.TalkCounted

theorem mild_refl (r : Record) : r.Mild r := ⟨rfl, id, id⟩

theorem mild_trans (a b c : Record) (h : a.Mild b) (k : b.Mild c) : a.Mild c :=
  ⟨k.identity.trans h.identity, fun ht => k.tallies (h.tallies ht), fun ht => k.talkCounts (h.talkCounts ht)⟩

theorem mild_of_poolChange (r q : Record) (h : r.PoolChange q) : r.Mild q := by
  rw [h]
  exact ⟨rfl, id, id⟩

/-- A change of records, of any record at all, that keeps the keys and is mild. -/
structure KeysKept (f : Record → Record) : Prop where
  mild : ∀ r, Record.Mild r (f r)
  position : ∀ r, (f r).position = r.position
  profile : ∀ r, (f r).profile = r.profile

theorem KeysKept.identity {f : Record → Record} (h : KeysKept f) (r : Record) : (f r).identity = r.identity :=
  (h.mild r).identity

theorem KeysKept.comp {f g : Record → Record} (hf : KeysKept f) (hg : KeysKept g) : KeysKept fun r => g (f r) where
  mild r := mild_trans _ _ _ (hf.mild r) (hg.mild (f r))
  position r := (hg.position (f r)).trans (hf.position r)
  profile r := (hg.profile (f r)).trans (hf.profile r)

/-- A change that touches neither the keys, nor the tallies, nor the block working values. -/
theorem KeysKept.of_untouched {f : Record → Record} (hi : ∀ r, (f r).identity = r.identity)
    (hp : ∀ r, (f r).position = r.position) (hn : ∀ r, (f r).profile = r.profile)
    (ht : ∀ r, (f r).tallies = r.tallies) (hb : ∀ r, (f r).block = r.block) : KeysKept f where
  mild r := ⟨hi r, fun h => by rwa [ht], fun h => by rwa [Record.TalkCounted, hb]⟩
  position := hp
  profile := hn

/-- The model of a record as it stands: its windows but for their coefficients, its unplaced offsets, the length of its
history. -/
structure Record.SameModel (r q : Record) : Prop where
  unplaced : q.unplaced = r.unplaced
  windows : q.held.map (fun w => (w.offset, w.coefficients.length)) =
    r.held.map (fun w => (w.offset, w.coefficients.length))
  history : r.history.length = 1024 → q.history.length = 1024

theorem Record.SameModel.of_eq {r q : Record} (hu : q.unplaced = r.unplaced) (hh : q.held = r.held)
    (hx : q.history = r.history) : r.SameModel q := ⟨hu, by rw [hh], fun h => by rw [hx, h]⟩

/-- The two halves of what a record's state says of its fields: the resume state is present exactly in BYPASS, and a
TRANSPARENT or LAPSED record has nothing of the pool (R4, R6). -/
abbrev Record.ResumeSound (r : Record) : Prop := r.resume.isSome = true ↔ r.state = .bypass
abbrev Record.IdleEmpty (r : Record) : Prop :=
  (r.state = .transparent ∨ r.state = .lapsed) → r.held = [] ∧ r.unplaced = []

/-- A change of a record that keeps what its state says of its fields, its counts in range and its levels sound. -/
structure Record.FieldsKept (p : Profile) (r q : Record) : Prop where
  resume : r.ResumeSound → q.ResumeSound
  idle : r.IdleEmpty → q.IdleEmpty
  counts : p.InRange → r.ResumeSound → r.CountsSound → q.CountsSound
  levels : p.InRange → r.LevelsSound p → q.LevelsSound p

theorem Record.FieldsKept.state {p : Profile} {r q : Record} (h : r.FieldsKept p q) (hs : r.StateSound) :
    q.StateSound := by
  obtain ⟨hr, hi⟩ := stateSound_iff.1 hs
  exact stateSound_iff.2 ⟨h.resume hr, h.idle hi⟩

theorem Record.FieldsKept.trans {p : Profile} {a b c : Record} (h : a.FieldsKept p b) (k : b.FieldsKept p c) :
    a.FieldsKept p c where
  resume hs := k.resume (h.resume hs)
  idle hs := k.idle (h.idle hs)
  counts hp hs hc := k.counts hp (h.resume hs) (h.counts hp hs hc)
  levels hp hl := k.levels hp (h.levels hp hl)

/-- A change of fields that no condition on a record reads, the windows apart. -/
theorem Record.FieldsKept.of_untouched {p : Profile} {r q : Record}
    (h : q = { r with
      identity := q.identity, position := q.position, profile := q.profile, freeze := q.freeze, history := q.history
      talk := q.talk, lastResult := q.lastResult, alarms := q.alarms, tallies := q.tallies, block := q.block
      lastTin := q.lastTin, lastXin := q.lastXin }) : r.FieldsKept p q := by
  constructor
  · intro hs
    rw [h]
    exact hs
  · intro hs
    rw [h]
    exact hs
  · intro _ _ hc
    rw [h]
    exact countsSound_iff.2 (countsSound_iff.1 hc)
  · intro _ hl
    rw [h]
    exact levelsSound_iff.2 (levelsSound_iff.1 hl)

/-- A change of a record that keeps its profile, its model, the conditions on its fields, and a place it has in the
search unit. -/
structure Record.Tame (p : Profile) (r q : Record) : Prop where
  profile : q.profile = r.profile
  model : r.SameModel q
  fields : r.FieldsKept p q
  cancels : cancels r.state = true → cancels q.state = true

theorem tame_refl (p : Profile) (r : Record) : r.Tame p r :=
  ⟨rfl, .of_eq rfl rfl rfl, .of_untouched rfl, id⟩

/-- A change of fields that no condition reads is tame. -/
theorem Record.Tame.of_untouched {p : Profile} {r q : Record}
    (h : q = { r with
      identity := q.identity, position := q.position, freeze := q.freeze
      talk := q.talk, lastResult := q.lastResult, alarms := q.alarms, tallies := q.tallies, block := q.block
      lastTin := q.lastTin, lastXin := q.lastXin }) : r.Tame p q where
  profile := by rw [h]
  model := .of_eq (by rw [h]) (by rw [h]) (by rw [h])
  fields := .of_untouched (by rw [h])
  cancels := by rw [h]; exact id

end Sys2Proof.Machine
end

section
/-! SUPPORT. The changes of one record that the Block Supervisor, the frame work and the commands make, each as what it
keeps. -/

namespace Sys2Proof.Machine

/-! ## Arithmetic of the counts -/

theorem stepNoise_ne_zero {n : BitVec 16} (h : n ≠ 0) : stepNoise n ≠ 0 := by
  unfold stepNoise
  split
  · intro he
    have := congrArg (·.getLsbD 15) he
    simp at this
  · rename_i hbit
    intro he
    have hlow : n.toNat / 2 = 0 := by simpa [Nat.shiftRight_eq_div_pow] using congrArg BitVec.toNat he
    have hne : n.toNat ≠ 0 := fun h0 => h (BitVec.eq_of_toNat_eq (by simpa using h0))
    exact hbit (by rw [show n = 1 from BitVec.eq_of_toNat_eq (by simp; omega)]; rfl)

/-- The background level moves an eighth of the way to a level of at most 8191 (R135). -/
theorem reviseBackground_background_le {r : Record} (h : r.background ≤ 8191) :
    (reviseBackground r).background ≤ 8191 := by
  unfold reviseBackground
  split
  · simp only [truncate]
    have hm := Nat.min_le_left 8191 (meanMagnitude r.block.sumXin)
    generalize min 8191 (meanMagnitude r.block.sumXin) = m at hm ⊢
    rcases le_total r.background m with hle | hle
    · rw [Int.tdiv_eq_ediv_of_nonneg (by omega)]
      omega
    · rw [show (m : Int) - r.background = -((r.background : Int) - m) by omega, Int.neg_tdiv,
        Int.tdiv_eq_ediv_of_nonneg (by omega)]
      omega
  · exact h

theorem stepGain_bounds {p : Profile} (h : p.gmin ≤ p.gmax) (level gain : Nat) :
    p.gmin ≤ stepGain p level gain ∧ stepGain p level gain ≤ p.gmax := clampNat_bounds h _

/-! ## Tallies and alarms -/

theorem keysKept_countClip : KeysKept countClip where
  mild _ := ⟨rfl, fun h => by
    obtain ⟨h1, h2, h3, -, h5, h6, h7⟩ := talliesSound_iff.1 h
    exact talliesSound_iff.2 ⟨h1, h2, h3, countUp_le _, h5, h6, h7⟩, id⟩
  position _ := rfl
  profile _ := rfl

theorem keysKept_countConverged : KeysKept countConverged where
  mild r := by
    unfold countConverged
    split
    · refine ⟨rfl, fun h => ?_, id⟩
      obtain ⟨-, h2, h3, h4, h5, h6, h7⟩ := talliesSound_iff.1 h
      exact talliesSound_iff.2 ⟨countUp_le _, h2, h3, h4, h5, h6, h7⟩
    · exact mild_refl r
  position := countConverged_position
  profile := countConverged_profile

theorem tame_countConverged (p : Profile) (r : Record) : r.Tame p (countConverged r) := by
  unfold countConverged
  split
  · exact .of_untouched rfl
  · exact tame_refl p r

theorem keysKept_withAlarm (k : Alarm) : KeysKept (Record.withAlarm k) :=
  .of_untouched (fun _ => rfl) (fun _ => rfl) (fun _ => rfl) (fun _ => rfl) (fun _ => rfl)

theorem keysKept_noteResult (res : SearchResult) : KeysKept (noteResult res) where
  mild _ := ⟨rfl, fun h => by
    obtain ⟨h1, h2, h3, h4, -, h6, h7⟩ := talliesSound_iff.1 h
    exact talliesSound_iff.2 ⟨h1, h2, h3, h4, countUp_le _, h6, h7⟩, id⟩
  position _ := rfl
  profile _ := rfl

theorem keysKept_clearTallies (c : Bool) : KeysKept (clearTallies c) where
  mild r := by
    unfold clearTallies
    split
    · exact ⟨rfl, fun _ => talliesSound_iff.2 (by simp), id⟩
    · exact mild_refl r
  position := clearTallies_position (c := c)
  profile := clearTallies_profile (c := c)

theorem tame_clearTallies (p : Profile) (c : Bool) (r : Record) : r.Tame p (clearTallies c r) := by
  unfold clearTallies
  split
  · exact .of_untouched rfl
  · exact tame_refl p r

/-! ## The measures of a whole block -/

theorem measureBlock_eq (p : Profile) (r : Record) : measureBlock p r = { r with
    background := (reviseBackground r).background
    gainIn := if updatesGainIn p r then stepGain p (meanMagnitude r.block.levelIn) r.gainIn else r.gainIn
    gainOut := if updatesGainOut p r then stepGain p (meanMagnitude r.block.levelOut) r.gainOut else r.gainOut
    tallies :=
      { r.tallies with
        doubleTalkBlocks :=
          if 1 ≤ r.block.doubleFrames then countUp r.tallies.doubleTalkBlocks else r.tallies.doubleTalkBlocks
        suppressedBlocks :=
          if r.block.suppressed then countUp r.tallies.suppressedBlocks else r.tallies.suppressedBlocks } } := by
  simp only [measureBlock, countTalkAndSuppression, levelControl, reviseBackground, updatesGainIn, updatesGainOut]
  split <;> rfl

theorem keysKept_measureBlock (p : Profile) : KeysKept (measureBlock p) where
  mild r := by
    rw [measureBlock_eq]
    refine ⟨rfl, fun h => ?_, id⟩
    obtain ⟨h1, h2, h3, h4, h5, h6, h7⟩ := talliesSound_iff.1 h
    have hup : ∀ (c : Prop) [Decidable c] (n : Nat), n ≤ 65535 → (if c then countUp n else n) ≤ 65535 := by
      intro c _ n hn
      split
      · exact countUp_le n
      · exact hn
    exact talliesSound_iff.2 ⟨h1, hup _ _ h2, hup _ _ h3, h4, h5, h6, h7⟩
  position := measureBlock_position (p := p)
  profile := measureBlock_profile (p := p)

theorem tame_measureBlock (p : Profile) (r : Record) : r.Tame p (measureBlock p r) := by
  rw [measureBlock_eq]
  refine ⟨rfl, .of_eq rfl rfl rfl, ⟨fun h => h, fun h => h, ?_, ?_⟩, id⟩
  · intro _ _ hc
    obtain ⟨h1, h2, h3, h4, h5, h6, h7, h8, h9, h10, h11, h12⟩ := countsSound_iff.1 hc
    exact countsSound_iff.2 ⟨h1, h2, h3, h4, h5, h6, h7, h8, h9, h10, reviseBackground_background_le h11, h12⟩
  · intro hp hl
    have hg := inRange_gmin_le_gmax hp
    obtain ⟨hi, ho, hpi, hpo⟩ := levelsSound_iff.1 hl
    refine levelsSound_iff.2 ⟨?_, ?_, hpi, hpo⟩
    · dsimp only
      split
      · exact stepGain_bounds hg _ _
      · exact hi
    · dsimp only
      split
      · exact stepGain_bounds hg _ _
      · exact ho

/-! ## Convergence supervision -/

theorem keysKept_divergeRecord : KeysKept divergeRecord where
  mild _ := ⟨rfl, fun h => by
    obtain ⟨h1, h2, h3, h4, h5, h6, -⟩ := talliesSound_iff.1 h
    exact talliesSound_iff.2 ⟨h1, h2, h3, h4, h5, h6, countUp_le _⟩, id⟩
  position _ := rfl
  profile _ := rfl

/-- A record that returns to SETTLING from SETTLING or CONVERGED with its counts 0, as at a divergence or a path
change. -/
theorem fieldsKept_settle {p : Profile} {r q : Record} (hc : cancels r.state = true)
    (hs : q.state = .settling ∧ q.resume = r.resume ∧ q.passCount = 0 ∧ q.failCount = 0)
    (hk : q.toneCount = r.toneCount ∧ q.quietCount = r.quietCount ∧ q.idleCount = r.idleCount ∧
      q.nearHold = r.nearHold ∧ q.background = r.background ∧ q.noise = r.noise)
    (hl : q.gainIn = r.gainIn ∧ q.gainOut = r.gainOut ∧ q.padIn = r.padIn ∧ q.padOut = r.padOut) :
    r.FieldsKept p q := by
  obtain ⟨hst, hre, hpc, hfc⟩ := hs
  obtain ⟨hto, hqu, hid, hnh, hbg, hno⟩ := hk
  obtain ⟨hgi, hgo, hpi, hpo⟩ := hl
  have hbyp : r.state ≠ .bypass ∧ r.state ≠ .lapsed := by
    rcases cancels_iff.1 hc with h | h <;> simp [h]
  refine ⟨fun hres => ?_, fun _ => ?_, fun _ _ h => ?_, fun _ h => ?_⟩
  · simpa [Record.ResumeSound, hre, hst, hbyp.1] using hres
  · simp [hst]
  · obtain ⟨h1, h2, h3, h4, h5, h6, h7, h8, h9, h10, h11, h12⟩ := countsSound_iff.1 h
    refine countsSound_iff.2 ?_
    rw [hst, hpc, hfc, hto, hqu, hid, hnh, hbg, hno]
    exact ⟨by omega, by omega, h3, h4, fun _ => ⟨by omega, rfl⟩, fun _ => h6 hc, by simp, h8, fun _ => h9 hbyp.2, h10,
      h11, h12⟩
  · rw [levelsSound_iff, hgi, hgo, hpi, hpo]
    exact levelsSound_iff.1 h

theorem tame_divergeRecord (p : Profile) {r : Record} (hc : cancels r.state = true) : r.Tame p (divergeRecord r) where
  profile := rfl
  model := ⟨rfl, by simp [divergeRecord, zeroCoefficients, Function.comp_def], id⟩
  fields := fieldsKept_settle hc ⟨rfl, rfl, rfl, rfl⟩ ⟨rfl, rfl, rfl, rfl, rfl, rfl⟩ ⟨rfl, rfl, rfl, rfl⟩
  cancels _ := rfl

theorem keysKept_changePathRecord : KeysKept changePathRecord where
  mild _ := ⟨rfl, fun h => by
    obtain ⟨h1, h2, h3, h4, h5, -, h7⟩ := talliesSound_iff.1 h
    exact talliesSound_iff.2 ⟨h1, h2, h3, h4, h5, countUp_le _, h7⟩, id⟩
  position _ := rfl
  profile _ := rfl

theorem tame_changePathRecord (p : Profile) {r : Record} (hc : cancels r.state = true) :
    r.Tame p (changePathRecord r) where
  profile := rfl
  model := .of_eq rfl rfl rfl
  fields := fieldsKept_settle hc ⟨rfl, rfl, rfl, rfl⟩ ⟨rfl, rfl, rfl, rfl, rfl, rfl⟩ ⟨rfl, rfl, rfl, rfl⟩
  cancels _ := rfl

/-- A change of the state within SETTLING and CONVERGED, of the pass count and of the fail count. -/
theorem tame_supervised (p : Profile) {r : Record} (hc : cancels r.state = true) {st : RecordState} {pass fail : Nat}
    (hst : cancels st = true)
    (hcounts : r.CountsSound → pass ≤ 4 ∧ fail < 8 ∧ (st = .settling → pass < 4 ∧ fail = 0)) :
    r.Tame p { r with state := st, passCount := pass, failCount := fail } where
  profile := rfl
  model := .of_eq rfl rfl rfl
  cancels _ := hst
  fields := by
    have hr : r.state ≠ .bypass ∧ r.state ≠ .lapsed := by rcases cancels_iff.1 hc with h | h <;> simp [h]
    have hq : st ≠ .bypass ∧ st ≠ .lapsed ∧ st ≠ .transparent := by
      rcases cancels_iff.1 hst with h | h <;> simp [h]
    obtain ⟨hq1, hq2, hq3⟩ := hq
    refine ⟨fun hres => ?_, fun _ => ?_, fun _ _ h => ?_, fun _ h => levelsSound_iff.2 (levelsSound_iff.1 h)⟩
    · simpa [Record.ResumeSound, hq1, hr.1] using hres
    · simp [hq2, hq3]
    · obtain ⟨hp4, hf8, hset⟩ := hcounts h
      obtain ⟨-, -, h3, h4, -, h6, -, h8, h9, h10, h11, h12⟩ := countsSound_iff.1 h
      exact countsSound_iff.2 ⟨hp4, hf8, h3, h4, by simpa [hq1] using hset, fun _ => h6 hc, by simp [hq3], h8,
        fun _ => h9 hr.2, h10, h11, h12⟩

theorem keysKept_passBlock : KeysKept passBlock :=
  .of_untouched (fun _ => rfl) (fun _ => rfl) (fun _ => rfl) (fun _ => rfl) (fun _ => rfl)

theorem keysKept_promoteRecord : KeysKept promoteRecord :=
  .of_untouched (fun _ => rfl) (fun _ => rfl) (fun _ => rfl) (fun _ => rfl) (fun _ => rfl)

theorem keysKept_failBlock : KeysKept failBlock :=
  .of_untouched (fun _ => rfl) (fun _ => rfl) (fun _ => rfl) (fun _ => rfl) (fun _ => rfl)

theorem keysKept_marginalBlock : KeysKept marginalBlock :=
  .of_untouched (fun _ => rfl) (fun _ => rfl) (fun _ => rfl) (fun _ => rfl) (fun _ => rfl)

theorem tame_promoteRecord (p : Profile) {r : Record} (h : promotionDue r = true) : r.Tame p (promoteRecord r) := by
  simp only [promotionDue, Bool.and_eq_true, beq_iff_eq, decide_eq_true_eq] at h
  refine tame_supervised p (by simp [h.1, cancels]) (fail := r.failCount) rfl fun hc => ?_
  obtain ⟨-, h2, -⟩ := countsSound_iff.1 hc
  exact ⟨by omega, h2, by simp⟩

/-- A passing block with the promotion it brings about (R84). -/
theorem tame_passBlock_promoted (p : Profile) {r : Record} (hc : cancels r.state = true) : r.Tame p (promoteRecord (passBlock r)) :=
  tame_supervised p hc rfl fun _ => ⟨by omega, by simp [passBlock], by simp⟩

/-- A passing block without promotion (R84). -/
theorem tame_passBlock (p : Profile) {r : Record} (hc : cancels r.state = true)
    (h : promotionDue (passBlock r) = false) : r.Tame p (passBlock r) := by
  refine tame_supervised p hc (st := r.state) hc fun _ => ⟨by omega, by omega, fun hst => ⟨?_, rfl⟩⟩
  have : ¬4 ≤ (passBlock r).passCount := by simpa [promotionDue, passBlock, hst] using h
  simpa [passBlock] using this

/-- A failing block, with the path change it brings about or without (R85). -/
theorem tame_failBlock_changed (p : Profile) {r : Record} (hc : cancels r.state = true) :
    r.Tame p (changePathRecord (failBlock r)) where
  profile := rfl
  model := .of_eq rfl rfl rfl
  fields := fieldsKept_settle hc ⟨rfl, rfl, rfl, rfl⟩ ⟨rfl, rfl, rfl, rfl, rfl, rfl⟩ ⟨rfl, rfl, rfl, rfl⟩
  cancels _ := rfl

theorem tame_failBlock (p : Profile) {r : Record} (hc : cancels r.state = true)
    (h : pathChangeDue (failBlock r) = false) : r.Tame p (failBlock r) := by
  refine tame_supervised p hc (st := r.state) hc fun hs => ?_
  obtain ⟨-, -, -, -, h5, -⟩ := countsSound_iff.1 hs
  rcases cancels_iff.1 hc with hst | hst
  · have := (h5 (.inl hst)).2
    simp [hst, this]
  · have : r.failCount < 7 := by simpa [pathChangeDue, failBlock, hst] using h
    simp only [hst, if_true]
    exact ⟨by omega, by omega, by simp⟩

theorem tame_marginalBlock (p : Profile) {r : Record} (hc : cancels r.state = true) : r.Tame p (marginalBlock r) :=
  tame_supervised p hc (st := r.state) hc fun _ => ⟨by omega, by omega, fun _ => ⟨by omega, rfl⟩⟩

/-! ## Tone, quiet and idle -/

theorem keysKept_reviseToneOrQuiet (p : Profile) : KeysKept (reviseToneOrQuiet p) := by
  refine .of_untouched (reviseToneOrQuiet_identity (p := p)) (reviseToneOrQuiet_position (p := p))
    (reviseToneOrQuiet_profile (p := p)) ?_ ?_ <;>
  · intro r
    unfold reviseToneOrQuiet
    split <;> rfl

theorem keysKept_bypassRecord : KeysKept bypassRecord :=
  .of_untouched (fun _ => rfl) (fun _ => rfl) (fun _ => rfl) (fun _ => rfl) (fun _ => rfl)

theorem keysKept_returnRecord : KeysKept returnRecord :=
  .of_untouched (fun _ => rfl) (fun _ => rfl) (fun _ => rfl) (fun _ => rfl) (fun _ => rfl)

theorem keysKept_lapseRecord : KeysKept lapseRecord :=
  .of_untouched (fun _ => rfl) (fun _ => rfl) (fun _ => rfl) (fun _ => rfl) (fun _ => rfl)

theorem keysKept_reviseIdle (p : Profile) : KeysKept (reviseIdle p) where
  mild r := by
    unfold reviseIdle
    split <;> exact ⟨rfl, id, id⟩
  position := reviseIdle_position (p := p)
  profile := reviseIdle_profile (p := p)

end Sys2Proof.Machine
end

section
/-! SUPPORT. The changes of one record, continued: bypass, return and idle lapse, the frame work, and what the commands
change. -/

namespace Sys2Proof.Machine

/-! ## Tone, quiet and idle -/

/-- A record at its entry to BYPASS (R153): what the resume state says of its counts is what its state said. -/
theorem fieldsKept_enterBypass (p : Profile) {r : Record} (hc : cancels r.state = true) {tone : Nat}
    (ht : r.CountsSound → tone ≤ 50) :
    r.FieldsKept p { r with
      state := .bypass, resume := some (resumeOf r.state), toneCount := tone, quietCount := 0 } := by
  have hl : r.state ≠ .lapsed := by rcases cancels_iff.1 hc with h | h <;> simp [h]
  refine ⟨fun _ => by simp [Record.ResumeSound], fun _ => by simp [Record.IdleEmpty], fun _ _ h => ?_, fun _ h => levelsSound_iff.2 (levelsSound_iff.1 h)⟩
  · obtain ⟨h1, h2, -, -, h5, -, -, h8, h9, h10, h11, h12⟩ := countsSound_iff.1 h
    refine countsSound_iff.2 ⟨h1, h2, ht h, by simp, ?_, by simp [cancels], by simp, h8, fun _ => h9 hl, h10, h11, h12⟩
    rintro (hst | ⟨-, hre⟩)
    · simp at hst
    · rcases cancels_iff.1 hc with hst | hst
      · exact h5 (.inl hst)
      · simp [hst, resumeOf] at hre

theorem bypassRecord_revised {p : Profile} {r : Record} (hc : cancels r.state = true) :
    bypassRecord (reviseToneOrQuiet p r) = { r with
      state := .bypass, resume := some (resumeOf r.state), toneCount := nextToneCount p r, quietCount := 0 } := by
  rcases cancels_iff.1 hc with h | h <;> simp [reviseToneOrQuiet, bypassRecord, h]

theorem nextToneCount_le (p : Profile) (r : Record) : nextToneCount p r ≤ r.toneCount + 1 := by
  unfold nextToneCount
  split <;> omega

theorem fieldsKept_bypassRecord_revised (p : Profile) {r : Record} (hc : cancels r.state = true) :
    r.FieldsKept p (bypassRecord (reviseToneOrQuiet p r)) := by
  rw [bypassRecord_revised hc]
  refine fieldsKept_enterBypass p hc fun h => ?_
  obtain ⟨-, -, -, -, -, h6, -⟩ := countsSound_iff.1 h
  have := h6 hc
  have := nextToneCount_le p r
  omega

theorem fieldsKept_bypassRecord (p : Profile) {r : Record} (hc : cancels r.state = true) :
    r.FieldsKept p (bypassRecord r) :=
  fieldsKept_enterBypass p hc fun h => by
    obtain ⟨-, -, h3, -⟩ := countsSound_iff.1 h
    exact h3

theorem returnState_cancels (r : Record) : cancels (returnState r) = true := by
  unfold returnState
  rcases r.resume with _ | x
  · rfl
  · cases x <;> rfl

/-- The return from BYPASS (R154), the quiet count being what it may. -/
theorem tame_returnRecord (p : Profile) {r : Record} (hst : r.state = .bypass) : r.Tame p (returnRecord r) where
  profile := rfl
  model := .of_eq rfl rfl rfl
  cancels _ := returnState_cancels r
  fields := by
    have hcan : ((returnRecord r).state = .settling ∨ (returnRecord r).state = .converged) :=
      cancels_iff.1 (returnState_cancels r)
    have hres : (returnRecord r).resume = none := rfl
    refine ⟨fun _ => ?_, fun _ => ?_, fun _ hs h => ?_, fun _ h => levelsSound_iff.2 (levelsSound_iff.1 h)⟩
    · rcases hcan with he | he <;> simp [Record.ResumeSound, he, hres]
    · rcases hcan with he | he <;> simp [Record.IdleEmpty, he]
    · obtain ⟨h1, h2, -, -, h5, -, -, h8, h9, h10, h11, h12⟩ := countsSound_iff.1 h
      have hidle : r.idleCount < 75000 := h9 (by simp [hst])
      refine countsSound_iff.2 ⟨h1, h2, by simp [returnRecord], by simp [returnRecord], ?_, by simp [returnRecord], ?_, h8,
        fun _ => hidle, h10, h11, h12⟩
      · rintro (he | ⟨-, he⟩)
        · have hsome : r.resume.isSome = true := hs.2 hst
          obtain ⟨x, hx⟩ := Option.isSome_iff_exists.1 hsome
          refine h5 (.inr ⟨hst, ?_⟩)
          cases x
          · exact hx
          · simp [returnRecord, returnState, hx, ResumeState.toState] at he
        · simp [returnRecord] at he
      · intro he
        rcases hcan with h' | h' <;> simp [h'] at he

theorem returnRecord_revised {p : Profile} {r : Record} (hst : r.state = .bypass) :
    returnRecord (reviseToneOrQuiet p r) = returnRecord r := by
  simp [reviseToneOrQuiet, returnRecord, returnState, hst]

/-- The tone or quiet count where it acts on nothing (R152, R154). -/
theorem tame_reviseToneOrQuiet (p : Profile) {r : Record} (hb : bypassDue (reviseToneOrQuiet p r) = false)
    (hr : returnDue (reviseToneOrQuiet p r) = false) : r.Tame p (reviseToneOrQuiet p r) := by
  have cancelling (hc : cancels r.state = true) (hq : reviseToneOrQuiet p r = { r with toneCount := nextToneCount p r }) :
      r.Tame p (reviseToneOrQuiet p r) := by
    rw [hq] at hb ⊢
    have ht : nextToneCount p r < 50 := by simpa [bypassDue, hc] using hb
    refine ⟨rfl, .of_eq rfl rfl rfl, ⟨fun h => h, fun h => h, fun _ _ h => ?_,
      fun _ h => levelsSound_iff.2 (levelsSound_iff.1 h)⟩, id⟩
    obtain ⟨h1, h2, -, h4, h5, -, -, h8, h9, h10, h11, h12⟩ := countsSound_iff.1 h
    exact countsSound_iff.2 ⟨h1, h2, by simp only; omega, h4, h5, fun _ => ht,
      fun he => by simp [show r.state = .transparent from he, cancels] at hc, h8, h9, h10, h11, h12⟩
  match hst : r.state with
  | .settling => exact cancelling (by simp [hst, cancels]) (by simp [reviseToneOrQuiet, hst])
  | .converged => exact cancelling (by simp [hst, cancels]) (by simp [reviseToneOrQuiet, hst])
  | .bypass =>
    have hq : reviseToneOrQuiet p r = { r with quietCount := if quietBlock p r then r.quietCount + 1 else 0 } := by
      simp [reviseToneOrQuiet, hst]
    rw [hq] at hr ⊢
    refine ⟨rfl, .of_eq rfl rfl rfl, ⟨fun h => h, fun h => h, fun _ _ h => ?_,
      fun _ h => levelsSound_iff.2 (levelsSound_iff.1 h)⟩, id⟩
    obtain ⟨h1, h2, h3, -, h5, h6, -, h8, h9, h10, h11, h12⟩ := countsSound_iff.1 h
    have hquiet : (if quietBlock p r then r.quietCount + 1 else 0) < 32 := by
      simpa only [returnDue, hst, beq_self_eq_true, Bool.true_and, decide_eq_false_iff_not, not_le] using hr
    exact countsSound_iff.2 ⟨h1, h2, h3, hquiet, h5, h6, by simp [hst], h8, h9, h10, h11, h12⟩
  | .transparent => simpa [reviseToneOrQuiet, hst] using tame_refl p r
  | .lapsed => simpa [reviseToneOrQuiet, hst] using tame_refl p r

theorem reviseIdle_eq (p : Profile) (r : Record) : reviseIdle p r = { r with
    idleCount := if p.idleLimit ≠ 0 ∧ quietBlock p r then r.idleCount + 1 else 0
    block := { r.block with idleRose := decide (p.idleLimit ≠ 0 ∧ quietBlock p r = true) } } := by
  unfold reviseIdle
  split
  · rename_i h; simp [h]
  · rename_i h; simp [h]

/-- The idle count where it acts on nothing (R156). -/
theorem tame_reviseIdle {p : Profile} {r : Record} (hl : r.state ≠ .lapsed)
    (h : lapseDue p (reviseIdle p r) = false) : r.Tame p (reviseIdle p r) := by
  rw [reviseIdle_eq] at h ⊢
  refine ⟨rfl, .of_eq rfl rfl rfl, ⟨fun h => h, fun h => h, fun hp _ hs => ?_,
    fun _ h => levelsSound_iff.2 (levelsSound_iff.1 h)⟩, id⟩
  obtain ⟨h1, h2, h3, h4, h5, h6, h7, h8, h9, h10, h11, h12⟩ := countsSound_iff.1 hs
  have hlimit := inRange_idleLimit hp
  have hcount : (if p.idleLimit ≠ 0 ∧ quietBlock p r then r.idleCount + 1 else 0) < 75000 := by
    split
    · rename_i hq
      have : r.idleCount + 1 < p.idleLimit * 125 := by simpa [lapseDue, hl, hq] using h
      omega
    · omega
  exact countsSound_iff.2 ⟨h1, h2, h3, h4, h5, h6, h7, hcount.le, fun _ => hcount, h10, h11, h12⟩

/-- The lapse of a record (R157), its windows given up. -/
theorem fieldsKept_lapse {p : Profile} {r : Record} {idle : Nat} {block : BlockValues}
    (hidle : r.CountsSound → idle ≤ 75000) :
    r.FieldsKept p { r with
      state := .lapsed, resume := none, idleCount := idle, block := block, held := [], unplaced := [] } := by
  refine ⟨fun _ => by simp [Record.ResumeSound], fun _ => by simp [Record.IdleEmpty], fun _ _ h => ?_, fun _ h => levelsSound_iff.2 (levelsSound_iff.1 h)⟩
  obtain ⟨h1, h2, h3, h4, -, -, -, -, -, h10, h11, h12⟩ := countsSound_iff.1 h
  exact countsSound_iff.2 ⟨h1, h2, h3, h4, by simp, by simp [cancels], by simp, hidle h, by simp, h10, h11, h12⟩

theorem fieldsKept_lapseRecord_revised (p : Profile) {r : Record} (hl : r.state ≠ .lapsed) :
    r.FieldsKept p (lapseRecord (reviseIdle p r)).emptied := by
  rw [reviseIdle_eq]
  refine fieldsKept_lapse fun h => ?_
  obtain ⟨-, -, -, -, -, -, -, -, h9, -⟩ := countsSound_iff.1 h
  have := h9 hl
  dsimp only [lapseRecord]
  split <;> omega

theorem fieldsKept_lapseRecord (p : Profile) (r : Record) :
    r.FieldsKept p (lapseRecord r).emptied :=
  fieldsKept_lapse fun h => by
    obtain ⟨-, -, -, -, -, -, -, h8, -⟩ := countsSound_iff.1 h
    exact h8

theorem keysKept_closeBlock : KeysKept closeBlock where
  mild _ := ⟨rfl, id, fun _ => rfl⟩
  position _ := rfl
  profile _ := rfl

/-! ## The frame work -/

theorem talkCounted_accumulate {r : Record} (w : FrameWork) (tin xin : Sample) (h : r.TalkCounted) :
    (recordAfterFrame r w tin xin).TalkCounted := by
  simp only [Record.TalkCounted, recordAfterFrame, accumulate] at h ⊢
  cases w.talk <;> simp <;> omega

theorem mild_frameOf (p : Profile) (r : Record) (tin xin : Sample) : r.Mild (frameOf p r tin xin).record := by
  rw [frameOf_record]
  split
  · exact mild_refl r
  · exact ⟨rfl, id, talkCounted_accumulate _ _ _⟩

theorem frameOf_position (p : Profile) (r : Record) (tin xin : Sample) :
    (frameOf p r tin xin).record.position = r.position := by
  rw [frameOf_record]
  split <;> rfl

theorem heldAfter_windows (p : Profile) (r : Record) (history : List Sample) (talk : TalkState) (residual : Sample) :
    (heldAfter p r history talk residual).map (fun w => (w.offset, w.coefficients.length)) =
      r.held.map (fun w => (w.offset, w.coefficients.length)) := by
  unfold heldAfter
  split
  · simp [adaptWindow, Function.comp_def]
  · rfl

theorem noiseAfter_ne_zero {p : Profile} {r : Record} (suppressed : Bool) (h : r.noise ≠ 0) :
    noiseAfter p r suppressed ≠ 0 := by
  unfold noiseAfter
  split
  · exact stepNoise_ne_zero h
  · exact h

theorem tame_frameOf (p : Profile) (r : Record) (tin xin : Sample) : r.Tame p (frameOf p r tin xin).record := by
  rw [frameOf_record]
  split
  · exact tame_refl p r
  · rename_i hl
    refine ⟨rfl, ⟨rfl, heldAfter_windows _ _ _ _ _, fun h => ?_⟩, ⟨fun h => h, fun hheld hst => ?_, fun hp _ h => ?_,
      fun _ h => ?_⟩, id⟩
    · simp [recordAfterFrame, frameStages, writeHistory, h]
    · obtain ⟨hh, hu⟩ := hheld hst
      exact ⟨by simp [recordAfterFrame, frameStages, heldAfter, hh], hu⟩
    · obtain ⟨h1, h2, h3, h4, h5, h6, h7, h8, h9, h10, h11, h12⟩ := countsSound_iff.1 h
      refine countsSound_iff.2 ⟨h1, h2, h3, h4, h5, h6, h7, h8, h9, ?_, h11, noiseAfter_ne_zero _ h12⟩
      have := inRange_nearHold hp
      simp only [recordAfterFrame, frameStages, nextNearHold]
      split <;> omega
    · exact levelsSound_iff.2 (levelsSound_iff.1 h)

/-! ## What the commands change -/

/-- A pad override that is kept, cleared, or given within its range (R10, R22). -/
def PadChange.InRange : PadChange → Prop
  | .set v => 1024 ≤ v ∧ v ≤ 16383
  | .keep | .clear => True

theorem parsePad_inRange {w : BitVec 16} {c : PadChange} (h : parsePad w = some c) : c.InRange := by
  unfold parsePad at h
  split at h
  · cases h; trivial
  · split at h
    · cases h; trivial
    · split at h
      · rename_i hr
        cases h; exact hr
      · cases h

theorem changePad_inRange {c : PadChange} (hc : c.InRange) {pad : Option Nat} (h : ∀ v ∈ pad, 1024 ≤ v ∧ v ≤ 16383) :
    ∀ v ∈ changePad c pad, 1024 ≤ v ∧ v ≤ 16383 := by
  cases c with
  | keep => exact h
  | clear => simp [changePad]
  | set v => simpa [changePad] using (show 1024 ≤ v ∧ v ≤ 16383 from hc)

theorem keysKept_changeLevels (p : Profile) (g : Bool) (a b : PadChange) (f : Option Bool) :
    KeysKept (changeLevels p g a b f) :=
  .of_untouched (fun _ => rfl) (fun _ => rfl) (fun _ => rfl) (fun _ => rfl) (fun _ => rfl)

theorem tame_changeLevels (p : Profile) (g : Bool) {a b : PadChange} (ha : a.InRange) (hb : b.InRange)
    (f : Option Bool) (r : Record) : r.Tame p (changeLevels p g a b f r) where
  profile := rfl
  model := .of_eq rfl rfl rfl
  cancels := id
  fields := by
    refine ⟨fun h => h, fun h => h, fun _ _ h => countsSound_iff.2 (countsSound_iff.1 h),
      fun hp h => ?_⟩
    have hg := inRange_gmin_le_gmax hp
    obtain ⟨hi, ho, hpi, hpo⟩ := levelsSound_iff.1 h
    refine levelsSound_iff.2 ⟨?_, ?_, changePad_inRange ha hpi, changePad_inRange hb hpo⟩
    · simp only [changeLevels]
      split
      · exact clampNat_bounds hg _
      · exact hi
    · simp only [changeLevels]
      split
      · exact clampNat_bounds hg _
      · exact ho

theorem keysKept_transparentRecord : KeysKept transparentRecord :=
  .of_untouched (fun _ => rfl) (fun _ => rfl) (fun _ => rfl) (fun _ => rfl) (fun _ => rfl)

theorem fieldsKept_transparentRecord (p : Profile) {r : Record} (hl : r.state ≠ .lapsed) :
    r.FieldsKept p (transparentRecord r).emptied := by
  refine ⟨fun _ => by simp [Record.ResumeSound, transparentRecord, Record.emptied], fun _ _ => ⟨rfl, rfl⟩, fun _ _ h => ?_,
    fun _ h => levelsSound_iff.2 (levelsSound_iff.1 h)⟩
  obtain ⟨-, -, -, -, -, -, -, h8, h9, h10, h11, h12⟩ := countsSound_iff.1 h
  exact countsSound_iff.2 ⟨by simp [transparentRecord, Record.emptied], by simp [transparentRecord, Record.emptied], by simp [transparentRecord, Record.emptied],
    by simp [transparentRecord, Record.emptied], by simp [transparentRecord, Record.emptied], by simp [transparentRecord, Record.emptied], by simp [transparentRecord, Record.emptied], h8,
    fun _ => h9 hl, h10, h11, h12⟩

/-- Mode CANCEL on the record (R21). -/
def settlingRecord (r : Record) : Record := { r with state := .settling }

theorem keysKept_settlingRecord : KeysKept settlingRecord :=
  .of_untouched (fun _ => rfl) (fun _ => rfl) (fun _ => rfl) (fun _ => rfl) (fun _ => rfl)

theorem fieldsKept_settlingRecord (p : Profile) {r : Record} (hst : r.state = .transparent) :
    r.FieldsKept p (settlingRecord r) := by
  refine ⟨fun hres => ?_, fun _ => by simp [Record.IdleEmpty, settlingRecord], fun _ _ h => ?_,
    fun _ h => levelsSound_iff.2 (levelsSound_iff.1 h)⟩
  · simpa [Record.ResumeSound, settlingRecord, hst] using hres
  · obtain ⟨h1, h2, h3, h4, -, -, h7, h8, h9, h10, h11, h12⟩ := countsSound_iff.1 h
    obtain ⟨hp0, hf0, ht0, -⟩ := h7 hst
    refine countsSound_iff.2 ⟨h1, h2, h3, h4, fun _ => ⟨?_, hf0⟩, fun _ => ?_, by simp [settlingRecord], h8,
      fun _ => h9 (by simp [hst]), h10, h11, h12⟩
    · simp [settlingRecord, hp0]
    · simp [settlingRecord, ht0]

theorem mild_moveRecord (pos : Position) (r : Record) : r.Mild (moveRecord pos r) := by
  unfold moveRecord
  split
  · exact ⟨rfl, id, id⟩
  · exact ⟨rfl, id, fun _ => rfl⟩

theorem moveRecord_position (pos : Position) (r : Record) : (moveRecord pos r).position = pos := by
  unfold moveRecord
  split <;> rfl

theorem rebindRecord_of_converged {r : Record} (h : r.state = .converged) (pos : Position) : rebindRecord pos r = { r with
    position := pos, history := List.replicate 1024 0, talk := .idle, nearHold := 0, state := .settling, passCount := 0
    failCount := 0, block := {}, lastTin := 0, lastXin := 0 } := by
  unfold rebindRecord
  rw [if_pos h, if_pos h, if_pos h]

theorem rebindRecord_of_not_converged {r : Record} (h : r.state ≠ .converged) (pos : Position) :
    rebindRecord pos r = { r with
      position := pos, history := List.replicate 1024 0, talk := .idle, nearHold := 0, block := {}, lastTin := 0
      lastXin := 0 } := by
  unfold rebindRecord
  rw [if_neg h, if_neg h, if_neg h]

/-- A record that is not LAPSED at a new position (R24). -/
theorem tame_rebindRecord (p : Profile) (pos : Position) {r : Record} (hl : r.state ≠ .lapsed) :
    r.Tame p (rebindRecord pos r) := by
  by_cases hst : r.state = .converged
  · rw [rebindRecord_of_converged hst]
    refine ⟨rfl, ⟨rfl, rfl, fun _ => List.length_replicate⟩, ⟨fun hres => ?_, fun _ he => ?_, fun _ _ h => ?_,
      fun _ h => levelsSound_iff.2 (levelsSound_iff.1 h)⟩, fun _ => rfl⟩
    · rw [Record.ResumeSound, hst] at hres
      exact iff_of_false (fun h => absurd (hres.1 h) (by simp)) (by simp)
    · rcases he with he | he <;> cases he
    · obtain ⟨-, -, h3, h4, -, h6, -, h8, h9, -, h11, h12⟩ := countsSound_iff.1 h
      exact countsSound_iff.2 ⟨Nat.zero_le _, Nat.succ_pos _, h3, h4, fun _ => ⟨Nat.succ_pos _, rfl⟩,
        fun _ => h6 (by simp [hst, cancels]), by simp, h8, fun _ => h9 hl, Nat.zero_le _, h11, h12⟩
  · rw [rebindRecord_of_not_converged hst]
    refine ⟨rfl, ⟨rfl, rfl, fun _ => List.length_replicate⟩, ⟨fun h => h, fun h => h,
      fun _ _ h => ?_, fun _ h => levelsSound_iff.2 (levelsSound_iff.1 h)⟩, id⟩
    obtain ⟨h1, h2, h3, h4, h5, h6, h7, h8, h9, -, h11, h12⟩ := countsSound_iff.1 h
    exact countsSound_iff.2 ⟨h1, h2, h3, h4, h5, h6, h7, h8, h9, Nat.zero_le _, h11, h12⟩

/-- A record at a new position (R24, R25). -/
theorem tame_moveRecord (p : Profile) (pos : Position) (r : Record) : r.Tame p (moveRecord pos r) := by
  unfold moveRecord
  split
  · exact .of_untouched rfl
  · rename_i hl
    exact tame_rebindRecord p pos hl

theorem mild_rebindRecord (pos : Position) (r : Record) : r.Mild (rebindRecord pos r) := ⟨rfl, id, fun _ => rfl⟩

end Sys2Proof.Machine
end

section
/-! SUPPORT. The parts of a record's block-end work, each said as one update of the record and what follows it. -/

namespace Sys2Proof.Machine

variable {s : State} {id : Identity} {r : Record}

theorem profileOf_eq_of_profile (s : State) {q r : Record} (h : q.profile = r.profile) : s.profileOf q = s.profileOf r := by
  simp [State.profileOf, h]

/-! ## The handling of a qualifying block -/

theorem promoteIfDue_of_some (h : s.recordOf id = some r) :
    s.promoteIfDue id = if promotionDue r then s.update id promoteRecord else s := by
  simp [State.promoteIfDue, h]

theorem changePathIfDue_of_some (h : s.recordOf id = some r) :
    s.changePathIfDue id = if pathChangeDue r then (s.update id changePathRecord).supervisorRequest id else s := by
  simp [State.changePathIfDue, h]

theorem handleClass_passing (h : s.recordOf id = some r) : s.handleClass id .passing =
    if promotionDue (passBlock r) then s.update id (fun q => promoteRecord (passBlock q)) else s.update id passBlock := by
  simp only [State.handleClass]
  rw [promoteIfDue_of_some (recordOf_update_self passBlock_identity h), update_update s id _ passBlock_identity]

theorem handleClass_failing (h : s.recordOf id = some r) : s.handleClass id .failing =
    if pathChangeDue (failBlock r) then (s.update id fun q => changePathRecord (failBlock q)).supervisorRequest id
    else s.update id failBlock := by
  simp only [State.handleClass]
  rw [changePathIfDue_of_some (recordOf_update_self failBlock_identity h), update_update s id _ failBlock_identity]

/-! ## Tone, quiet and idle -/

theorem enterBypassIfDue_of_some (h : s.recordOf id = some r) :
    s.enterBypassIfDue id = if bypassDue r then (s.update id bypassRecord).cancelSearch id else s := by
  simp [State.enterBypassIfDue, h]

theorem returnIfDue_of_some (h : s.recordOf id = some r) : s.returnIfDue id =
    if returnDue r then
      if returnRequests (s.profileOf r) r then (s.update id returnRecord).request .ordinary id
      else s.update id returnRecord
    else s := by
  simp [State.returnIfDue, h]

theorem lapseIfDue_of_some (h : s.recordOf id = some r) : s.lapseIfDue id =
    if lapseDue (s.profileOf r) r then (((s.update id lapseRecord).releaseAll id).cancelSearch id).raise .lapse
    else s := by
  simp [State.lapseIfDue, h]

/-- The tone work of a record in BYPASS (R154, R159). -/
theorem toneWork_of_bypass (h : s.recordOf id = some r) (hst : r.state = .bypass) : s.toneWork id =
    let q := reviseToneOrQuiet (s.profileOf r) r
    let back := s.update id fun x => returnRecord (reviseToneOrQuiet (s.profileOf r) x)
    if returnDue q then if returnRequests (s.profileOf r) q then back.request .ordinary id else back
    else s.update id (reviseToneOrQuiet (s.profileOf r)) := by
  have hid : ∀ x, (reviseToneOrQuiet (s.profileOf r) x).identity = x.identity := fun x => reviseToneOrQuiet_identity x _
  have hp : ∀ f, (s.update id f).profileOf (reviseToneOrQuiet (s.profileOf r) r) = s.profileOf r := fun f =>
    profileOf_eq_of_profile s (reviseToneOrQuiet_profile r _)
  simp only [State.toneWork, h, hst, if_true]
  rw [returnIfDue_of_some (recordOf_update_self hid h), hp, update_update s id _ hid]

/-- The tone work of a record outside BYPASS (R152, R153, R159). -/
theorem toneWork_of_not_bypass (h : s.recordOf id = some r) (hst : r.state ≠ .bypass) : s.toneWork id =
    if bypassDue (reviseToneOrQuiet (s.profileOf r) r) then
      (s.update id fun x => bypassRecord (reviseToneOrQuiet (s.profileOf r) x)).cancelSearch id
    else s.update id (reviseToneOrQuiet (s.profileOf r)) := by
  have hid : ∀ x, (reviseToneOrQuiet (s.profileOf r) x).identity = x.identity := fun x => reviseToneOrQuiet_identity x _
  simp only [State.toneWork, h, hst, if_false]
  rw [enterBypassIfDue_of_some (recordOf_update_self hid h), update_update s id _ hid]

/-- The idle count and the lapse (R156, R157). -/
theorem idleWork_of_some (h : s.recordOf id = some r) : s.idleWork id =
    if lapseDue (s.profileOf r) (reviseIdle (s.profileOf r) r) then
      (((s.update id fun x => lapseRecord (reviseIdle (s.profileOf r) x)).releaseAll id).cancelSearch id).raise .lapse
    else s.update id (reviseIdle (s.profileOf r)) := by
  have hid : ∀ x, (reviseIdle (s.profileOf r) x).identity = x.identity := fun x => reviseIdle_identity x _
  have hp : (s.update id (reviseIdle (s.profileOf r))).profileOf (reviseIdle (s.profileOf r) r) = s.profileOf r :=
    profileOf_eq_of_profile s (reviseIdle_profile r _)
  simp only [State.idleWork, h]
  rw [lapseIfDue_of_some (recordOf_update_self hid h), hp, update_update s id _ hid]

theorem supervise_of_some (h : s.recordOf id = some r) : s.supervise id =
    if qualifies r then (s.testEcho r).handleClass id (classify (s.profileOf r) r.block) else s := by
  simp [State.supervise, h]

end Sys2Proof.Machine
end

section
/-! SUPPORT. Operations that keep the rows of the table: no record comes or goes, each keeps its keys, and all that the
table, the search unit and the pool do not hold is as before. -/

namespace Sys2Proof.Machine

/-- A record that keeps its keys, but perhaps the profile, and is changed mildly. -/
def Record.RowKept (r q : Record) : Prop := r.Mild q ∧ q.position = r.position

/-- The table row by row, the part tallies sound, and everything but the table, its reference counts, the search unit,
the pool, the summary and the part tallies as before. -/
structure RowsKept (s t : State) : Prop where
  apart : State.SameApart { s with refCounts := t.refCounts } t
  records : List.Forall₂ Record.RowKept s.records t.records
  part : s.part.Sound → t.part.Sound

theorem rowKept_refl (r : Record) : r.RowKept r := ⟨mild_refl r, rfl⟩

theorem rowKept_trans (a b c : Record) (h : a.RowKept b) (k : b.RowKept c) : a.RowKept c :=
  ⟨mild_trans a b c h.1 k.1, k.2.trans h.2⟩

theorem rowKept_identity (r q : Record) (h : r.RowKept q) : q.identity = r.identity := h.1.identity

theorem RowsKept.refl (s : State) : RowsKept s s := ⟨rfl, List.forall₂_same.2 fun r _ => rowKept_refl r, id⟩

theorem RowsKept.trans {s t u : State} (h : RowsKept s t) (k : RowsKept t u) : RowsKept s u where
  apart := by
    have hst : State.SameApart { s with refCounts := u.refCounts } { t with refCounts := u.refCounts } := by
      rw [sameApart_iff]
      have := sameApart_iff.1 h.apart
      tauto
    exact sameApart_trans hst k.apart
  records := forall2_trans rowKept_trans h.records k.records
  part hs := k.part (h.part hs)

theorem RowsKept.of_sameApart {s t : State} (h : s.SameApart t) (hr : List.Forall₂ Record.RowKept s.records t.records)
    (hp : s.part.Sound → t.part.Sound) : RowsKept s t where
  apart := by rw [sameApart_refCounts h]; exact h
  records := hr
  part := hp

theorem RowsKept.identities {s t : State} (h : RowsKept s t) :
    t.records.map (·.identity) = s.records.map (·.identity) := forall2_map_eq (·.identity) rowKept_identity h.records

theorem RowsKept.positions {s t : State} (h : RowsKept s t) :
    t.records.map (·.position) = s.records.map (·.position) := forall2_map_eq (·.position) (fun _ _ h => h.2) h.records

theorem RowsKept.tableSound {s t : State} (h : RowsKept s t) (hs : s.TableSound) : t.TableSound :=
  tableSound_of_keys h.identities h.positions hs

theorem RowsKept.settings {s t : State} (h : RowsKept s t) : t.settings = s.settings := by rw [h.apart]

theorem RowsKept.recordOf {s t : State} (h : RowsKept s t) {id : Identity} {r : Record} (hr : s.recordOf id = some r) :
    ∃ q, t.recordOf id = some q ∧ r.RowKept q := forall2_recordOf rowKept_identity h.records hr

/-! ## The operations -/

theorem PoolStep.partSound {s t : State} (h : PoolStep s t) (hs : s.part.Sound) : t.part.Sound := by
  obtain ⟨h1, h2, h3, h4, h5⟩ := partSound_iff.1 hs
  rw [partSound_iff, h.part]
  exact ⟨h1, h2, h3, h4, h.grants h5⟩

theorem PoolStep.rowsKept {s t : State} (h : PoolStep s t) : RowsKept s t :=
  .of_sameApart h.apart (h.records.imp fun r q hq => ⟨mild_of_poolChange r q hq, poolChange_position hq⟩) h.partSound

theorem update_rowsKept (s : State) (id : Identity) {f : Record → Record} (hf : KeysKept f) :
    RowsKept s (s.update id f) :=
  .of_sameApart rfl (forall2_update s id (fun r _ => rowKept_refl r) fun r _ _ => ⟨hf.mild r, hf.position r⟩) fun hs => hs

theorem RowsKept.of_records_eq {s t : State} (h : s.SameApart t) (hr : t.records = s.records) (hp : t.part = s.part) :
    RowsKept s t :=
  .of_sameApart h (by rw [hr]; exact List.forall₂_same.2 fun r _ => rowKept_refl r) fun hs => by rwa [hp]

theorem arbitrate_rowsKept (s : State) : RowsKept s s.arbitrate :=
  .of_records_eq (arbitrate_sameApart s) (arbitrate_records s) (arbitrate_part s)

theorem request_rowsKept (s : State) (l : Lane) (id : Identity) : RowsKept s (s.request l id) :=
  .of_records_eq (request_sameApart s l id) (request_records s l id) (request_part s l id)

theorem cancelSearch_rowsKept (s : State) (id : Identity) : RowsKept s (s.cancelSearch id) :=
  .of_records_eq (cancelSearch_sameApart s id) (cancelSearch_records s id) (cancelSearch_part s id)

/-- The trim with its grants (R19). -/
theorem trim_poolStep (s : State) (r : Record) (limit : Nat) : PoolStep s (s.trim r limit) := by
  have h1 : PoolStep s (s.update r.identity (trimRecord limit)) :=
    PoolStep.update s r.identity (f := trimRecord limit) (fun _ => rfl) s.free s.waiting s.summary
  have h2 : PoolStep s (if (trimRecord limit r).unplaced = [] then (s.update r.identity (trimRecord limit)).stopWaiting
      r.identity else s.update r.identity (trimRecord limit)) := by
    split
    · exact h1.trans (PoolStep.counts _ _ _)
    · exact h1
  unfold State.trim
  dsimp only
  split
  · exact h2
  · exact (h2.trans (PoolStep.counts _ _ _)).trans (grantAll_poolStep _)

/-- The profile change with its clamp, as a change of the record (R19). -/
def reprofiled (p : Profile) (number : ProfileNumber) (r : Record) : Record := clampGains p { r with profile := number }

theorem reprofiled_rowsKept (s : State) (id : Identity) (p : Profile) (number : ProfileNumber) :
    RowsKept s (s.update id (reprofiled p number)) :=
  .of_sameApart rfl (forall2_update s id (fun r _ => rowKept_refl r) fun _ _ _ =>
    ⟨⟨rfl, fun h => h, fun h => h⟩, rfl⟩) fun hs => hs

theorem changeProfile_eq (s : State) (r : Record) {number : ProfileNumber} (h : number ≠ r.profile) :
    s.changeProfile r number =
      (((s.loseReference r.profile).gainReference number).update r.identity
        (reprofiled (s.settings.profiles.get number) number)).trim r (s.settings.profiles.get number).windowLimit := by
  unfold State.changeProfile
  rw [if_neg h]
  rfl

theorem changeProfile_rowsKept (s : State) (r : Record) (number : ProfileNumber) :
    RowsKept s (s.changeProfile r number) := by
  by_cases h : number = r.profile
  · simpa [State.changeProfile, h] using RowsKept.refl s
  · rw [changeProfile_eq s r h]
    have h0 : RowsKept s ((s.loseReference r.profile).gainReference number) :=
      ⟨rfl, List.forall₂_same.2 fun r _ => rowKept_refl r, id⟩
    exact (h0.trans (reprofiled_rowsKept _ _ _ _)).trans (trim_poolStep _ _ _).rowsKept

theorem keysKept_settleState (before : List Nat) : KeysKept (settleState before) where
  mild r := by
    unfold settleState
    split <;> exact ⟨rfl, id, id⟩
  position := settleState_position (before := before)
  profile := settleState_profile (before := before)

/-- The windows of a placement claimed as far as they are free, after those held were returned (R121). -/
def State.claimed (s : State) (r : Record) (placement : List Nat) : State :=
  { (s.returnWindows r.identity).update r.identity fun q =>
      { q with held := claimedWindows r.held (placement.take (s.returnWindows r.identity).free) } with
    free := (s.returnWindows r.identity).free - (placement.take (s.returnWindows r.identity).free).length }

/-- The windows claimed, and the record waiting for those of the placement that were not free (R121). -/
def State.placed (s : State) (r : Record) (placement : List Nat) : State :=
  if placement.drop (s.returnWindows r.identity).free = [] then s.claimed r placement
  else (s.claimed r placement).waitFor r.identity (placement.drop (s.returnWindows r.identity).free)

/-- The installation of a placement: claims and wait, then the state, then the grants (R121, R122). -/
theorem install_eq (s : State) (r : Record) (placement : List Nat) : s.install r placement =
    ((s.placed r placement).update r.identity (settleState (r.held.map (·.offset)))).grantAll := rfl

theorem claimed_poolStep (s : State) (r : Record) (placement : List Nat) : PoolStep s (s.claimed r placement) :=
  (returnWindows_poolStep s r.identity).trans (PoolStep.update (s.returnWindows r.identity) r.identity
    (f := fun q => { q with held := claimedWindows r.held (placement.take (s.returnWindows r.identity).free) })
    (fun _ => rfl) _ (s.returnWindows r.identity).waiting (s.returnWindows r.identity).summary)

theorem placed_poolStep (s : State) (r : Record) (placement : List Nat) : PoolStep s (s.placed r placement) := by
  unfold State.placed
  split
  · exact claimed_poolStep s r placement
  · exact (claimed_poolStep s r placement).trans (waitFor_poolStep _ _ _)

theorem install_rowsKept (s : State) (r : Record) (placement : List Nat) : RowsKept s (s.install r placement) := by
  rw [install_eq]
  exact ((placed_poolStep s r placement).rowsKept.trans (update_rowsKept _ _ (keysKept_settleState _))).trans
    (grantAll_poolStep _).rowsKept

theorem judgeSearch_rowsKept (s : State) (r : Record) (sl : Slot) : RowsKept s (s.judgeSearch r sl) := by
  unfold State.judgeSearch
  split
  · exact (update_rowsKept s _ (keysKept_noteResult _)).trans (install_rowsKept _ _ _)
  · exact (update_rowsKept s _ (keysKept_noteResult _)).trans (releaseAll_poolStep _ _).rowsKept

theorem freeSlot_rowsKept (s : State) (id : Identity) : RowsKept s (s.freeSlot id) := .of_records_eq rfl rfl rfl

theorem completeSearch_rowsKept (s : State) (id : Identity) : RowsKept s (s.completeSearch id) := by
  unfold State.completeSearch
  split
  · split
    · exact ((freeSlot_rowsKept s id).trans (judgeSearch_rowsKept _ _ _)).trans (arbitrate_rowsKept _)
    · exact .refl s
  · exact .refl s

/-- The result of a search that has run out of time (R110). -/
def inconclusiveRecord (r : Record) : Record := { r with lastResult := .inconclusive }

theorem keysKept_inconclusiveRecord : KeysKept inconclusiveRecord :=
  .of_untouched (fun _ => rfl) (fun _ => rfl) (fun _ => rfl) (fun _ => rfl) (fun _ => rfl)

theorem timeOutSearch_rowsKept (s : State) (id : Identity) : RowsKept s (s.timeOutSearch id) := by
  unfold State.timeOutSearch
  split
  · split
    · refine RowsKept.trans ?_ (arbitrate_rowsKept _)
      refine .of_sameApart rfl
        (forall2_update _ id (f := inconclusiveRecord) (fun r _ => rowKept_refl r) fun r _ _ =>
          ⟨keysKept_inconclusiveRecord.mild r, rfl⟩) fun hs => ?_
      obtain ⟨h1, h2, h3, -, h5⟩ := partSound_iff.1 hs
      exact partSound_iff.2 ⟨h1, h2, h3, countUp_le _, h5⟩
    · exact .refl s
  · exact .refl s

end Sys2Proof.Machine
end

section
/-! SUPPORT. What a record's block-end work makes of the record itself. -/

namespace Sys2Proof.Machine

/-! ## The outcome of each part of the work -/

/-- The record after the handling of a qualifying block of a class (R83 to R86). -/
def Record.handled (r : Record) : BlockClass → Record
  | .divergent => (divergeRecord r).withAlarm .diverged
  | .passing => if promotionDue (passBlock r) then promoteRecord (passBlock r) else passBlock r
  | .failing => if pathChangeDue (failBlock r) then changePathRecord (failBlock r) else failBlock r
  | .marginal => marginalBlock r

/-- The record after the ECHO_STRONG test of a qualifying block (R88). -/
def Record.echoTested (r : Record) : Record := if echoIsStrong r.block then r.withAlarm .echoStrong else r

/-- The record after convergence supervision (R81 to R88). -/
def Record.supervised (p : Profile) (r : Record) : Record :=
  if qualifies r then r.echoTested.handled (classify p r.block) else r

/-- The record after its tone or quiet work (R151 to R154). -/
def Record.toneWorked (p : Profile) (r : Record) : Record :=
  let q := reviseToneOrQuiet p r
  if returnDue q then returnRecord q else if bypassDue q then bypassRecord q else q

/-- The record after its idle work (R156, R157), the windows of a lapsed record given up. -/
def Record.idleWorked (p : Profile) (r : Record) : Record :=
  let q := reviseIdle p r
  if lapseDue p q then (lapseRecord q).emptied else q

/-- The record after clip detection (R46). -/
def Record.clipDetected (r : Record) : Record := if r.block.clip then (countClip r).withAlarm .inputClip else r

variable {s : State} {id : Identity} {r : Record}

/-! ## What the identity index finds after each part -/

theorem recordOf_request (s : State) (l : Lane) (id j : Identity) : (s.request l id).recordOf j = s.recordOf j :=
  recordOf_congr (request_records s l id) j

theorem recordOf_cancelSearch (s : State) (id j : Identity) : (s.cancelSearch id).recordOf j = s.recordOf j :=
  recordOf_congr (cancelSearch_records s id) j

theorem supervisorRequest_records (s : State) (id : Identity) : (s.supervisorRequest id).records = s.records := by
  obtain ⟨pl, ol, sl, h⟩ := supervisorRequest_shape s id
  rw [h]

theorem recordOf_supervisorRequest (s : State) (id j : Identity) : (s.supervisorRequest id).recordOf j = s.recordOf j :=
  recordOf_congr (supervisorRequest_records s id) j

theorem recordOf_detectClip (h : s.recordOf r.identity = some r) :
    (s.detectClip r).recordOf r.identity = some r.clipDetected := by
  unfold State.detectClip Record.clipDetected
  split
  · exact recordOf_raiseAlarm_self (recordOf_update_self countClip_identity h) _
  · exact h

theorem recordOf_testEcho (h : s.recordOf r.identity = some r) :
    (s.testEcho r).recordOf r.identity = some r.echoTested := by
  unfold State.testEcho Record.echoTested
  split
  · exact recordOf_raiseAlarm_self h _
  · exact h

theorem recordOf_handleClass (h : s.recordOf id = some r) (c : BlockClass) :
    (s.handleClass id c).recordOf id = some (r.handled c) := by
  cases c with
  | divergent =>
    simp only [State.handleClass, State.diverge, recordOf_supervisorRequest]
    exact recordOf_raiseAlarm_self (recordOf_update_self divergeRecord_identity h) _
  | passing =>
    rw [handleClass_passing h]
    simp only [Record.handled]
    split
    · exact recordOf_update_self (f := fun q => promoteRecord (passBlock q)) (fun _ => rfl) h
    · exact recordOf_update_self passBlock_identity h
  | failing =>
    rw [handleClass_failing h]
    simp only [Record.handled]
    split
    · rw [recordOf_supervisorRequest]
      exact recordOf_update_self (f := fun q => changePathRecord (failBlock q)) (fun _ => rfl) h
    · exact recordOf_update_self failBlock_identity h
  | marginal => exact recordOf_update_self marginalBlock_identity h

theorem recordOf_supervise (h : s.recordOf id = some r) :
    (s.supervise id).recordOf id = some (r.supervised (s.profileOf r)) := by
  rw [supervise_of_some h]
  unfold Record.supervised
  split
  · obtain ⟨-, rfl⟩ := recordOf_some h
    exact recordOf_handleClass (recordOf_testEcho h) _
  · exact h

theorem bypassDue_reviseToneOrQuiet_of_bypass {p : Profile} (hst : r.state = .bypass) :
    bypassDue (reviseToneOrQuiet p r) = false := by simp [bypassDue, reviseToneOrQuiet, hst, cancels]

theorem reviseToneOrQuiet_state (p : Profile) (r : Record) : (reviseToneOrQuiet p r).state = r.state := by
  unfold reviseToneOrQuiet
  split <;> rfl

theorem returnDue_reviseToneOrQuiet_of_not_bypass {p : Profile} (hst : r.state ≠ .bypass) :
    returnDue (reviseToneOrQuiet p r) = false := by
  simp [returnDue, reviseToneOrQuiet_state, hst]

theorem recordOf_toneWork (h : s.recordOf id = some r) :
    (s.toneWork id).recordOf id = some (r.toneWorked (s.profileOf r)) := by
  have hid : ∀ x, (reviseToneOrQuiet (s.profileOf r) x).identity = x.identity := fun x => reviseToneOrQuiet_identity x _
  unfold Record.toneWorked
  by_cases hst : r.state = .bypass
  · rw [toneWork_of_bypass h hst]
    simp only [bypassDue_reviseToneOrQuiet_of_bypass hst, Bool.false_eq_true, if_false]
    split
    · have hu := recordOf_update_self (f := fun x => returnRecord (reviseToneOrQuiet (s.profileOf r) x)) hid h
      split
      · rw [recordOf_request, hu]
      · exact hu
    · exact recordOf_update_self hid h
  · rw [toneWork_of_not_bypass h hst]
    simp only [returnDue_reviseToneOrQuiet_of_not_bypass hst, Bool.false_eq_true, if_false]
    split
    · rw [recordOf_cancelSearch]
      exact recordOf_update_self (f := fun x => bypassRecord (reviseToneOrQuiet (s.profileOf r) x)) hid h
    · exact recordOf_update_self hid h

/-- A record after its release: without windows and unplaced offsets (R123). -/
theorem recordOf_releaseAll (hs : s.TableSound) (h : s.recordOf id = some r) :
    (s.releaseAll id).recordOf id = some r.emptied := by
  rw [State.releaseAll]
  refine recordOf_grantAll_of_placed ((returnWindows_poolStep s id).tableSound hs) ?_ rfl
  simp only [State.returnWindows, h]
  exact recordOf_update_self (f := Record.emptied) (fun _ => rfl) h

/-! ## Keys and states of the outcomes -/

theorem clipDetected_state (r : Record) : r.clipDetected.state = r.state := by
  unfold Record.clipDetected
  split <;> rfl

theorem clipDetected_profile (r : Record) : r.clipDetected.profile = r.profile := by
  unfold Record.clipDetected
  split <;> rfl

theorem measureBlock_state (p : Profile) (r : Record) : (measureBlock p r).state = r.state := by rw [measureBlock_eq]

theorem countConverged_state (r : Record) : (countConverged r).state = r.state := by
  unfold countConverged
  split <;> rfl

theorem echoTested_state (r : Record) : r.echoTested.state = r.state := by
  unfold Record.echoTested
  split <;> rfl

theorem qualifies_cancels (h : qualifies r = true) : cancels r.state = true := by
  simp only [qualifies, Bool.and_eq_true] at h
  exact h.1.2

theorem handled_cancels (hc : cancels r.state = true) (c : BlockClass) : cancels (r.handled c).state = true := by
  cases c with
  | divergent => rfl
  | passing =>
    simp only [Record.handled]
    split
    · rfl
    · exact hc
  | failing =>
    simp only [Record.handled]
    split
    · rfl
    · exact hc
  | marginal => exact hc

theorem supervised_state_of_not_cancels {p : Profile} (hc : cancels r.state = false) : r.supervised p = r := by
  unfold Record.supervised
  rw [if_neg]
  intro hq
  simp [qualifies_cancels hq] at hc

theorem supervised_cancels (p : Profile) (hc : cancels r.state = true) : cancels (r.supervised p).state = true := by
  unfold Record.supervised
  split
  · exact handled_cancels (by rwa [echoTested_state]) _
  · exact hc

theorem supervised_ne_lapsed {p : Profile} (h : r.state ≠ .lapsed) : (r.supervised p).state ≠ .lapsed := by
  rcases hc : cancels r.state with _ | _
  · rwa [supervised_state_of_not_cancels hc]
  · rcases cancels_iff.1 (supervised_cancels p hc) with he | he <;> simp [he]

theorem toneWorked_ne_lapsed {p : Profile} (h : r.state ≠ .lapsed) : (r.toneWorked p).state ≠ .lapsed := by
  unfold Record.toneWorked
  dsimp only
  split
  · rcases cancels_iff.1 (returnState_cancels (reviseToneOrQuiet p r)) with he | he <;> simp [returnRecord, he]
  · split
    · simp [bypassRecord]
    · rwa [reviseToneOrQuiet_state]

end Sys2Proof.Machine
end

section
/-! SUPPORT. What one step can do: a run of moves, each of which keeps the conditions of Safety.lean. -/

namespace Sys2Proof.Machine

/-! ## Moves -/

/-- A move in the table, the search unit and the pool. `T` is the assumption under which the table was sound before it:
what a move says of the records it changes, beyond what holds of every table, it says under that assumption. -/
inductive TableMove (T : Prop) (s : State) : State → Prop
  /-- Every record is changed on its own; none leaves SETTLING and CONVERGED for another state. -/
  | records (g : Record → Record) (mild : ∀ r ∈ s.records, Record.Mild r (g r))
      (positions : T → (s.records.map fun r => (g r).position).Nodup)
      (tame : T → ∀ r ∈ s.records, Record.Tame (s.profileOf r) r (g r)) :
      TableMove T s { s with records := s.records.map g }
  /-- Some searches are restarted in their slots. -/
  | slots (g : Slot → Slot) (hg : ∀ sl ∈ s.slots, g sl = sl ∨ g sl = freshSlot sl.identity) :
      TableMove T s { s with slots := s.slots.map g }
  /-- A cancelling record requests a search. -/
  | request (l : Lane) (id : Identity) (h : id ∈ s.cancelling) : TableMove T s (s.request l id)
  /-- A record without windows begins to cancel and claims a window. -/
  | claim (id : Identity) (f : Record → Record) (o : Nat) (hf : KeysKept f)
      (hr : T → ∀ r, s.recordOf id = some r → (r.StateSound → r.held = [] ∧ r.unplaced = []) ∧ r.SameModel (f r) ∧
        r.FieldsKept (s.profileOf r) (f r) ∧ cancels (f r).state = true ∧ 1 ≤ (s.profileOf r).windowLimit ∧
        o = (s.profileOf r).provisionalOffset) :
      TableMove T s ((s.update id f).claimProvisional id o)
  /-- A record changes its profile, with the trim and its grants. -/
  | changeProfile (r : Record) (number : ProfileNumber) (h : s.recordOf r.identity = some r) :
      TableMove T s (s.changeProfile r number)
  /-- A record changes with its windows kept and leaves the search unit. -/
  | leave (id : Identity) (f : Record → Record) (hf : KeysKept f)
      (hr : T → ∀ r, s.recordOf id = some r → r.SameModel (f r) ∧ r.FieldsKept (s.profileOf r) (f r)) :
      TableMove T s ((s.update id f).cancelSearch id)
  /-- A record changes, gives up its windows and leaves the search unit. -/
  | retire (id : Identity) (f : Record → Record) (hf : KeysKept f)
      (hr : T → ∀ r, s.recordOf id = some r → r.SameModel (f r) ∧ r.FieldsKept (s.profileOf r) (f r).emptied) :
      TableMove T s (((s.update id f).releaseAll id).cancelSearch id)
  /-- A search completes, or runs out of time. -/
  | complete (id : Identity) : TableMove T s (s.completeSearch id)
  | timeOut (id : Identity) : TableMove T s (s.timeOutSearch id)
  /-- A record is created, and the LAPSED record at its position replaced. -/
  | attach (id : Identity) (pos : Position) (number : ProfileNumber) (mode : Mode) (hdup : s.isDuplicate id pos = false)
      (htaken : s.isTaken pos = false) (hfull : s.isFull pos = false) :
      TableMove T s
        ((s.retireAt pos).enter (newRecord id pos number (s.settings.profiles.get number) mode))
  /-- A record is removed. -/
  | detach (r : Record) (h : s.recordOf r.identity = some r) : TableMove T s (s.detachRecord r)

/-- One move of the part. -/
inductive Move (T : Prop) (s : State) : State → Prop
  | table {t : State} (h : TableMove T s t) : Move T s t
  /-- The fields that no condition of Safety.lean reads, the queue apart. -/
  | aside (powered resetHeld : Bool) (phase : Fin 64) (blockEndDue : Bool) (summary mask : EventSet) (port : Port) :
      Move T s { s with
        powered := powered, resetHeld := resetHeld, phase := phase, blockEndDue := blockEndDue, summary := summary
        mask := mask, port := port }
  | tallies (part : PartTallies) (h : s.part.Sound → part.Sound) : Move T s { s with part := part }
  | highways (a b c d : List Sample)
      (h : s.HighwaysSound → a.length = 128 ∧ b.length = 128 ∧ c.length = 128 ∧ d.length = 128) :
      Move T s { s with trunkOut := a, exchangeOut := b, nextTrunkOut := c, nextExchangeOut := d }
  | beginStore (hf : s.store.inFlight = none) (hw : s.store.wear < 2000) :
      Move T s { s with
        store := { s.store with wear := s.store.wear + 1, valid := false, inFlight := some s.settings } }
  | commitStore (snapshot : Settings) (h : s.store.inFlight = some snapshot) : Move T s (s.commitStore snapshot)
  | tearStore (snapshot : Settings) (h : s.store.inFlight = some snapshot) : Move T s (s.tearStore snapshot)
  | loadWorking (h : s.records = []) : Move T s s.loadWorking
  | setProfile (n : ProfileNumber) (p : Profile) (h : s.refCounts.get n = 0) (hp : p.InRange) :
      Move T s (s.setProfile n p)
  | setRule (n : RuleNumber) (rule : RouteRule) : Move T s (s.setRule n rule)
  | reset (address : BitVec 4) (rate : LineRate) : Move T s (s.resetPart address rate)
  | restart : Move T s s.restartPart

/-- A run of moves. -/
abbrev Moves (T : Prop) : State → State → Prop := Relation.ReflTransGen (Move T)

/-! ## The moves that keep the rows of the table, and the two that do not -/

/-- The rows after a change of every record on its own. -/
theorem records_mild {s : State} {g : Record → Record} (mild : ∀ r ∈ s.records, Record.Mild r (g r)) :
    List.Forall₂ Record.Mild s.records (s.records.map g) := by
  rw [List.forall₂_map_right_iff, List.forall₂_same]
  exact mild

/-- The table after a LAPSED record has gone and a new one has come (R12, R13). -/
theorem attach_records (s : State) (pos : Position) (r : Record) :
    ((s.retireAt pos).enter r).records = s.records.filter (·.position != pos) ++ [r] := by
  have h : (s.retireAt pos).records = s.records.filter (·.position != pos) := by
    unfold State.retireAt
    split
    · rfl
    · rename_i hn
      rw [List.filter_eq_self.2]
      intro q hq
      simpa using recordAt_eq_none_iff.1 hn q hq
  simp [State.enter, h]

theorem detach_records (s : State) (r : Record) :
    (s.detachRecord r).records = (s.releaseAll r.identity).records.filter (·.identity != r.identity) := by
  simp [State.detachRecord, State.releaseAll]

/-- What a duplicate check that passes says (R11, check 4). -/
theorem not_isDuplicate {s : State} (hs : s.TableSound) {id : Identity} {pos : Position}
    (h : s.isDuplicate id pos = false) {r : Record} (hr : r ∈ s.records) (hi : r.identity = id) :
    r.state = .lapsed ∧ r.position = pos := by
  have hof := (recordOf_eq_some_iff hs).2 ⟨hr, hi⟩
  simpa [State.isDuplicate, hof] using h

/-- What a position check that passes says (R11, check 5). -/
theorem not_isTaken {s : State} (hs : s.TableSound) {pos : Position} (h : s.isTaken pos = false) {r : Record}
    (hr : r ∈ s.records) (hp : r.position = pos) : r.state = .lapsed := by
  have hat := (recordAt_eq_some_iff hs).2 ⟨hr, hp⟩
  simpa [State.isTaken, hat] using h

/-- A checked ATTACH keeps the table sound (R1, R11). -/
theorem attach_tableSound {s : State} (hs : s.TableSound) {id : Identity} {pos : Position}
    (hdup : s.isDuplicate id pos = false) (hfull : s.isFull pos = false) {r : Record} (hi : r.identity = id)
    (hp : r.position = pos) : ((s.retireAt pos).enter r).TableSound := by
  have hsub : (s.records.filter (·.position != pos)).Sublist s.records := List.filter_sublist
  unfold State.TableSound
  rw [attach_records]
  refine ⟨?_, ?_, ?_⟩
  · rw [List.length_append, List.length_singleton]
    by_cases h96 : 96 ≤ s.records.length
    · have hat : (s.recordAt pos).isSome = true := by
        simpa [State.isFull, h96, Option.isSome_iff_ne_none] using hfull
      obtain ⟨q, hq⟩ := Option.isSome_iff_exists.1 hat
      obtain ⟨hmem, hqp⟩ := recordAt_some hq
      have : (s.records.filter (·.position != pos)).length < s.records.length :=
        List.length_filter_lt_length_iff_exists.2 ⟨q, hmem, by simp [hqp]⟩
      have := hs.1
      omega
    · have := hsub.length_le
      omega
  · rw [List.map_append, List.map_singleton, List.nodup_append]
    refine ⟨hs.2.1.sublist (hsub.map _), List.nodup_singleton _, ?_⟩
    rintro a ha b hb rfl
    obtain ⟨q, hq, rfl⟩ := List.mem_map.1 ha
    obtain ⟨hq, hne⟩ := List.mem_filter.1 hq
    have hqi : q.identity = id := by simpa [hi] using hb
    simp [(not_isDuplicate hs hdup hq hqi).2] at hne
  · rw [List.map_append, List.map_singleton, List.nodup_append]
    refine ⟨hs.2.2.sublist (hsub.map _), List.nodup_singleton _, ?_⟩
    rintro a ha b hb rfl
    obtain ⟨q, hq, rfl⟩ := List.mem_map.1 ha
    obtain ⟨-, hne⟩ := List.mem_filter.1 hq
    have hqp : q.position = pos := by simpa [hp] using hb
    simp [hqp] at hne

theorem detach_tableSound {s : State} (hs : s.TableSound) (r : Record) : (s.detachRecord r).TableSound := by
  have hu := (releaseAll_poolStep s r.identity).tableSound hs
  have hsub : ((s.releaseAll r.identity).records.filter (·.identity != r.identity)).Sublist
      (s.releaseAll r.identity).records := List.filter_sublist
  unfold State.TableSound
  rw [detach_records]
  exact ⟨hsub.length_le.trans hu.1, hu.2.1.sublist (hsub.map _), hu.2.2.sublist (hsub.map _)⟩

/-- Every move keeps the table sound (R1). -/
theorem TableMove.tableSound {T : Prop} {s t : State} (h : TableMove T s t) (hT : T) (hs : s.TableSound) :
    t.TableSound := by
  cases h with
  | records g mild positions _ =>
    refine ⟨by simpa using hs.1, ?_, by simpa [Function.comp_def] using positions hT⟩
    have : (s.records.map g).map (·.identity) = s.records.map (·.identity) := by
      rw [List.map_map]
      exact List.map_congr_left fun r hr => (mild r hr).identity
    exact this ▸ hs.2.1
  | slots => exact hs
  | request l id => exact (request_rowsKept s l id).tableSound hs
  | claim id f o hf => exact ((update_rowsKept s id hf).trans (claimProvisional_poolStep _ _ _).rowsKept).tableSound hs
  | changeProfile r number => exact (changeProfile_rowsKept s r number).tableSound hs
  | leave id f hf => exact ((update_rowsKept s id hf).trans (cancelSearch_rowsKept _ _)).tableSound hs
  | retire id f hf =>
    exact (((update_rowsKept s id hf).trans (releaseAll_poolStep _ _).rowsKept).trans
      (cancelSearch_rowsKept _ _)).tableSound hs
  | complete id => exact (completeSearch_rowsKept s id).tableSound hs
  | timeOut id => exact (timeOutSearch_rowsKept s id).tableSound hs
  | attach id pos number mode hdup _ hfull => exact attach_tableSound hs hdup hfull rfl rfl
  | detach r => exact detach_tableSound hs r

theorem loadWorking_shape (s : State) :
    ∃ c e, s.loadWorking = { s with settings := c, summary := e } ∧
      (c = factorySettings ∨ s.store.valid = true ∧ c = s.store.contents) := by
  unfold State.loadWorking
  split
  · rename_i h
    exact ⟨_, _, rfl, .inr ⟨h, rfl⟩⟩
  · exact ⟨_, _, rfl, .inl rfl⟩

/-- What a reset leaves beside the store and the pins (R175). -/
theorem resetPart_shape (s : State) (address : BitVec 4) (rate : LineRate) :
    ∃ c e, s.resetPart address rate = { State.reset with
        settings := c, summary := e, store := s.cutStore.store, freeIndex := s.cutStore.freeIndex, pending := s.pending
        port := { State.reset.port with address := address, rate := rate } } ∧
      (c = factorySettings ∨ s.cutStore.store.valid = true ∧ c = s.cutStore.store.contents) := by
  unfold State.resetPart
  obtain ⟨c, e, h, hc⟩ := loadWorking_shape { State.reset with
    summary := EventKind.restarted.flag, store := s.cutStore.store, freeIndex := s.cutStore.freeIndex
    pending := s.pending, port := { State.reset.port with address := address, rate := rate } }
  exact ⟨c, e, h, hc⟩

theorem tableSound_of_records_nil {s : State} (h : s.records = []) : s.TableSound := by
  simp [State.TableSound, h]

theorem Move.tableSound {T : Prop} {s t : State} (h : Move T s t) (hT : T) (hs : s.TableSound) : t.TableSound := by
  cases h with
  | table h => exact h.tableSound hT hs
  | aside | tallies | highways | beginStore | commitStore | tearStore | setProfile | setRule => exact hs
  | loadWorking h =>
    obtain ⟨c, e, he, -⟩ := loadWorking_shape s
    rw [he]
    exact hs
  | reset address rate =>
    obtain ⟨c, e, he, -⟩ := resetPart_shape s address rate
    rw [he]
    exact tableSound_of_records_nil rfl
  | restart => exact tableSound_of_records_nil rfl

/-- What every move keeps, a run of moves keeps. -/
theorem Moves.keep {T : Prop} {P : State → Prop} (hP : ∀ s t, Move T s t → P s → P t) {s t : State} (h : Moves T s t)
    (hs : P s) : P t := by
  induction h with
  | refl => exact hs
  | tail _ hm ih => exact hP _ _ hm ih

theorem Moves.tableSound {T : Prop} {s t : State} (h : Moves T s t) (hs : T → s.TableSound) (hT : T) : t.TableSound :=
  h.keep (P := State.TableSound) (fun _ _ hm => hm.tableSound hT) (hs hT)

end Sys2Proof.Machine
end

section
/-! SUPPORT. Every step is a run of moves: the block end, the searches, and the commands. -/

namespace Sys2Proof.Machine

variable {T : Prop} {s : State} {id : Identity} {r : Record}

theorem Moves.table {t : State} (h : TableMove T s t) : Moves T s t := .single (.table h)

/-! ## Small moves -/

theorem raise_moves (s : State) (k : EventKind) : Moves T s (s.raise k) :=
  .single (.aside s.powered s.resetHeld s.phase s.blockEndDue _ s.mask s.port)

theorem port_moves (s : State) (port : Port) : Moves T s { s with port := port } :=
  .single (.aside s.powered s.resetHeld s.phase s.blockEndDue s.summary s.mask port)

/-- A tame change of the record that an identity names. -/
theorem update_moves (hT : T → s.TableSound) {f : Record → Record} (hf : KeysKept f)
    (tame : T → ∀ r, s.recordOf id = some r → Record.Tame (s.profileOf r) r (f r)) : Moves T s (s.update id f) := by
  refine .table (.records (fun r => if r.identity = id then f r else r) (fun r _ => ?_) (fun ht => ?_) fun ht r hr => ?_)
  · split
    · exact hf.mild r
    · exact mild_refl r
  · have : (s.records.map fun r => (if r.identity = id then f r else r).position) = s.records.map (·.position) :=
      List.map_congr_left fun r _ => by split <;> simp [hf.position]
    exact this ▸ (hT ht).2.2
  · split
    · rename_i hi
      exact tame ht r ((recordOf_eq_some_iff (hT ht)).2 ⟨hr, hi⟩)
    · exact tame_refl _ r

theorem raiseAlarm_moves (hT : T → s.TableSound) (k : Alarm) : Moves T s (s.raiseAlarm id k) := by
  unfold State.raiseAlarm
  split
  · split
    · exact .refl
    · exact (update_moves (f := Record.withAlarm k) hT (keysKept_withAlarm k) fun _ r _ => .of_untouched rfl).trans
        (raise_moves _ _)
  · exact .refl

theorem mem_cancelling_of_recordOf (h : s.recordOf id = some r) (hc : cancels r.state = true) : id ∈ s.cancelling :=
  mem_cancelling.2 ⟨r, (recordOf_some h).1, hc, (recordOf_some h).2⟩

theorem request_moves (l : Lane) (h : s.recordOf id = some r) (hc : cancels r.state = true) :
    Moves T s (s.request l id) := .table (.request l id (mem_cancelling_of_recordOf h hc))

theorem supervisorRequest_moves (h : s.recordOf id = some r) (hc : cancels r.state = true) :
    Moves T s (s.supervisorRequest id) := by
  unfold State.supervisorRequest
  rw [h]
  dsimp only
  split
  · exact request_moves _ h hc
  · exact .refl

/-! ## Convergence supervision -/

theorem detectClip_moves (hT : T → s.TableSound) : Moves T s (s.detectClip r) := by
  unfold State.detectClip
  split
  · have h := update_moves (T := T) (id := r.identity) hT keysKept_countClip fun _ _ _ => .of_untouched rfl
    exact h.trans (raiseAlarm_moves (h.tableSound hT) _)
  · exact .refl

theorem testEcho_moves (hT : T → s.TableSound) : Moves T s (s.testEcho r) := by
  unfold State.testEcho
  split
  · exact raiseAlarm_moves hT _
  · exact .refl

theorem handleClass_moves (hT : T → s.TableSound) (h : s.recordOf id = some r) (hc : cancels r.state = true)
    (c : BlockClass) : Moves T s (s.handleClass id c) := by
  have only {q : Record} (hq : s.recordOf id = some q) : q = r := Option.some.inj (hq.symm.trans h)
  cases c with
  | divergent =>
    simp only [State.handleClass, State.diverge]
    have h1 := update_moves (T := T) (id := id) hT keysKept_divergeRecord fun _ q hq =>
      tame_divergeRecord (s.profileOf q) (by rwa [only hq])
    have h2 := h1.trans (raiseAlarm_moves (h1.tableSound hT) (id := id) .diverged)
    exact h2.trans (supervisorRequest_moves
      (recordOf_raiseAlarm_self (recordOf_update_self divergeRecord_identity h) _) rfl)
  | passing =>
    rw [handleClass_passing h]
    split
    · rename_i hd
      exact update_moves hT (keysKept_passBlock.comp keysKept_promoteRecord) fun _ q hq => by
        rw [only hq]; exact tame_passBlock_promoted _ hc
    · rename_i hd
      exact update_moves hT keysKept_passBlock fun _ q hq => by
        rw [only hq]; exact tame_passBlock _ hc (by simpa using hd)
  | failing =>
    rw [handleClass_failing h]
    split
    · have h1 := update_moves (T := T) (id := id) hT (keysKept_failBlock.comp keysKept_changePathRecord) fun _ q hq =>
        tame_failBlock_changed (s.profileOf q) (by rwa [only hq])
      exact h1.trans (supervisorRequest_moves
        (recordOf_update_self (f := fun q => changePathRecord (failBlock q)) (fun _ => rfl) h) rfl)
    · rename_i hd
      exact update_moves hT keysKept_failBlock fun _ q hq => by
        rw [only hq]; exact tame_failBlock _ hc (by simpa using hd)
  | marginal =>
    exact update_moves hT keysKept_marginalBlock fun _ q hq => by rw [only hq]; exact tame_marginalBlock _ hc

theorem supervise_moves (hT : T → s.TableSound) (id : Identity) : Moves T s (s.supervise id) := by
  rcases h : s.recordOf id with _ | r
  · rw [State.supervise, h]
  · rw [supervise_of_some h]
    obtain ⟨-, rfl⟩ := recordOf_some h
    split
    · rename_i hq
      have h1 := testEcho_moves (T := T) (r := r) hT
      exact h1.trans (handleClass_moves (h1.tableSound hT) (recordOf_testEcho h)
        (by rw [echoTested_state]; exact qualifies_cancels hq) _)
    · exact .refl

/-! ## Tone, quiet and idle -/

theorem toneWork_moves (hT : T → s.TableSound) (id : Identity) : Moves T s (s.toneWork id) := by
  rcases h : s.recordOf id with _ | r
  · rw [State.toneWork, h]
  have only {q : Record} (hq : s.recordOf id = some q) : q = r := Option.some.inj (hq.symm.trans h)
  have hid : ∀ x, (reviseToneOrQuiet (s.profileOf r) x).identity = x.identity := fun x => reviseToneOrQuiet_identity x _
  have plain (hb : bypassDue (reviseToneOrQuiet (s.profileOf r) r) = false)
      (hr : returnDue (reviseToneOrQuiet (s.profileOf r) r) = false) :
      Moves T s (s.update id (reviseToneOrQuiet (s.profileOf r))) :=
    update_moves hT (keysKept_reviseToneOrQuiet _) fun _ q hq => by
      rw [only hq]; exact tame_reviseToneOrQuiet _ hb hr
  by_cases hst : r.state = .bypass
  · rw [toneWork_of_bypass h hst]
    dsimp only
    split
    · have back : Moves T s (s.update id fun x => returnRecord (reviseToneOrQuiet (s.profileOf r) x)) :=
        update_moves hT ((keysKept_reviseToneOrQuiet _).comp keysKept_returnRecord) fun _ q hq => by
          rw [only hq, returnRecord_revised hst]; exact tame_returnRecord _ hst
      split
      · exact back.trans (request_moves _
          (recordOf_update_self (f := fun x => returnRecord (reviseToneOrQuiet (s.profileOf r) x)) hid h)
          (returnState_cancels _))
      · exact back
    · rename_i hd
      exact plain (bypassDue_reviseToneOrQuiet_of_bypass hst) (by simpa using hd)
  · rw [toneWork_of_not_bypass h hst]
    split
    · rename_i hd
      have hc : cancels r.state = true := by
        simp only [bypassDue, Bool.and_eq_true, reviseToneOrQuiet_state] at hd
        exact hd.1
      refine .table (.leave id _ ((keysKept_reviseToneOrQuiet _).comp keysKept_bypassRecord) fun _ q hq => ?_)
      rw [only hq]
      exact ⟨by rw [bypassRecord_revised hc]; exact .of_eq rfl rfl rfl, fieldsKept_bypassRecord_revised _ hc⟩
    · rename_i hd
      exact plain (by simpa using hd) (returnDue_reviseToneOrQuiet_of_not_bypass hst)

theorem reviseIdle_sameModel (p : Profile) (r : Record) : r.SameModel (reviseIdle p r) := by
  rw [reviseIdle_eq]
  exact .of_eq rfl rfl rfl

theorem idleWork_moves (hT : T → s.TableSound) (hl : T → ∀ r, s.recordOf id = some r → r.state ≠ .lapsed) :
    Moves T s (s.idleWork id) := by
  rcases h : s.recordOf id with _ | r
  · rw [State.idleWork, h]
  have only {q : Record} (hq : s.recordOf id = some q) : q = r := Option.some.inj (hq.symm.trans h)
  rw [idleWork_of_some h]
  split
  · refine Moves.table (.retire id _ ((keysKept_reviseIdle _).comp keysKept_lapseRecord) fun ht q hq => ?_) |>.trans
      (raise_moves _ _)
    rw [only hq]
    have hm := reviseIdle_sameModel (s.profileOf r) r
    exact ⟨⟨hm.unplaced, hm.windows, hm.history⟩, fieldsKept_lapseRecord_revised _ (hl ht r h)⟩
  · rename_i hd
    exact update_moves hT (keysKept_reviseIdle _) fun ht q hq => by
      rw [only hq]; exact tame_reviseIdle (hl ht r h) (by simpa using hd)

/-! ## The block end -/

/-- The whole block's work on a record that the identity index finds, when it is given it as it stood before clip
detection (R47, R90, R159). -/
theorem wholeBlockWork_moves (hT : T → s.TableSound)
    (hr : T → ∃ q, s.recordOf r.identity = some q ∧ q.profile = r.profile ∧ q.state ≠ .lapsed) :
    Moves T s (s.wholeBlockWork r) := by
  unfold State.wholeBlockWork
  have h1 : Moves T s (s.update r.identity (measureBlock (s.profileOf r))) :=
    update_moves hT (keysKept_measureBlock _) fun ht x hx => by
      obtain ⟨q, hq, hp, -⟩ := hr ht
      rw [Option.some.inj (hx.symm.trans hq), profileOf_eq_of_profile s hp]
      exact tame_measureBlock _ q
  have h2 : Moves T s _ := h1.trans (supervise_moves (h1.tableSound hT) r.identity)
  have h3 : Moves T s _ := h2.trans (update_moves (h2.tableSound hT) keysKept_countConverged (id := r.identity) fun _ q _ =>
    tame_countConverged _ q)
  have h4 : Moves T s _ := h3.trans (toneWork_moves (h3.tableSound hT) r.identity)
  refine h4.trans (idleWork_moves (h4.tableSound hT) fun ht x hx => ?_)
  obtain ⟨q, hq, -, hl⟩ := hr ht
  have f1 := recordOf_update_self (f := measureBlock (s.profileOf r)) (fun q => measureBlock_identity q _) hq
  have f4 := recordOf_toneWork (recordOf_update_self countConverged_identity (recordOf_supervise f1))
  rw [Option.some.inj (hx.symm.trans f4)]
  refine toneWorked_ne_lapsed ?_
  rw [countConverged_state]
  exact supervised_ne_lapsed (by rwa [measureBlock_state])

theorem recordBlockEnd_moves (hT : T → s.TableSound) (hr : r ∈ s.records) : Moves T s (s.recordBlockEnd r) := by
  unfold State.recordBlockEnd
  split
  · exact .refl
  · rename_i hl
    have h1 := detectClip_moves (T := T) (r := r) hT
    have close {t : State} (h : Moves T s t) : Moves T s (t.update r.identity closeBlock) :=
      h.trans (update_moves (h.tableSound hT) keysKept_closeBlock fun _ _ _ => .of_untouched rfl)
    refine close ?_
    split
    · refine h1.trans (wholeBlockWork_moves (h1.tableSound hT) fun ht => ⟨r.clipDetected, ?_, ?_, ?_⟩)
      · exact recordOf_detectClip ((recordOf_eq_some_iff (hT ht)).2 ⟨hr, rfl⟩)
      · exact clipDetected_profile r
      · rwa [clipDetected_state]
    · exact h1

/-- A fold of operations that are runs of moves is one. -/
theorem foldl_moves {α : Type} {f : State → α → State}
    (hf : ∀ (s : State) (a : α), (T → s.TableSound) → Moves T s (f s a)) (as : List α) {s : State}
    (hT : T → s.TableSound) : Moves T s (as.foldl f s) := by
  induction as generalizing s with
  | nil => exact .refl
  | cons a as ih => exact (hf s a hT).trans (ih ((hf s a hT).tableSound hT))

theorem endBlock_moves (hT : T → s.TableSound) : Moves T s s.endBlock := by
  unfold State.endBlock
  split
  · refine (foldl_moves (fun s p hT => ?_) allPositions hT).trans
      (.single (.aside _ _ _ false _ _ _))
    unfold State.positionBlockEnd
    split
    · rename_i r hr
      exact recordBlockEnd_moves hT (recordAt_some hr).1
    · exact .refl
  · exact .refl

/-! ## The transitions as steps -/

theorem promoteIfDue_moves (hT : T → s.TableSound) (id : Identity) : Moves T s (s.promoteIfDue id) := by
  rcases h : s.recordOf id with _ | r
  · rw [State.promoteIfDue, h]
  rw [promoteIfDue_of_some h]
  split
  · rename_i hd
    exact update_moves hT keysKept_promoteRecord fun _ q hq => by
      rw [Option.some.inj (hq.symm.trans h)]; exact tame_promoteRecord _ hd
  · exact .refl

theorem changePathIfDue_moves (hT : T → s.TableSound) (id : Identity) : Moves T s (s.changePathIfDue id) := by
  rcases h : s.recordOf id with _ | r
  · rw [State.changePathIfDue, h]
  rw [changePathIfDue_of_some h]
  split
  · rename_i hd
    have hc : cancels r.state = true := by
      simp only [pathChangeDue, Bool.and_eq_true, beq_iff_eq] at hd
      simp [hd.1, cancels]
    refine (update_moves hT keysKept_changePathRecord fun _ q hq => ?_).trans
      (supervisorRequest_moves (recordOf_update_self changePathRecord_identity h) rfl)
    rw [Option.some.inj (hq.symm.trans h)]
    exact tame_changePathRecord _ hc
  · exact .refl

theorem enterBypassIfDue_moves (id : Identity) : Moves T s (s.enterBypassIfDue id) := by
  rcases h : s.recordOf id with _ | r
  · rw [State.enterBypassIfDue, h]
  rw [enterBypassIfDue_of_some h]
  split
  · rename_i hd
    have hc : cancels r.state = true := by
      simp only [bypassDue, Bool.and_eq_true] at hd
      exact hd.1
    refine .table (.leave id _ keysKept_bypassRecord fun _ q hq => ?_)
    rw [Option.some.inj (hq.symm.trans h)]
    exact ⟨.of_eq rfl rfl rfl, fieldsKept_bypassRecord _ hc⟩
  · exact .refl

theorem returnIfDue_moves (hT : T → s.TableSound) (id : Identity) : Moves T s (s.returnIfDue id) := by
  rcases h : s.recordOf id with _ | r
  · rw [State.returnIfDue, h]
  rw [returnIfDue_of_some h]
  split
  · rename_i hd
    have hst : r.state = .bypass := by
      simp only [returnDue, Bool.and_eq_true, beq_iff_eq] at hd
      exact hd.1
    have back : Moves T s (s.update id returnRecord) := update_moves hT keysKept_returnRecord fun _ q hq => by
      rw [Option.some.inj (hq.symm.trans h)]; exact tame_returnRecord _ hst
    split
    · exact back.trans (request_moves _ (recordOf_update_self returnRecord_identity h) (returnState_cancels r))
    · exact back
  · exact .refl

theorem lapseIfDue_moves (id : Identity) : Moves T s (s.lapseIfDue id) := by
  rcases h : s.recordOf id with _ | r
  · rw [State.lapseIfDue, h]
  rw [lapseIfDue_of_some h]
  split
  · exact Moves.table (.retire id _ keysKept_lapseRecord fun _ q _ =>
      ⟨.of_eq rfl rfl rfl, fieldsKept_lapseRecord _ q⟩) |>.trans (raise_moves _ _)
  · exact .refl

/-! ## The frame -/

/-- A record after its frame work (R36). -/
def State.framed (s : State) (tin xin : List Sample) (r : Record) : Record :=
  (frameOf (s.profileOf r) r (sampleAt tin r.position) (sampleAt xin r.position)).record

theorem workFrame_records (s : State) (tin xin : List Sample) :
    (s.workFrame tin xin).records = s.records.map (s.framed tin xin) := by
  simp only [State.workFrame, State.frameResults, List.map_map]
  rfl

theorem workFrame_moves (hT : T → s.TableSound) (tin xin : List Sample) : Moves T s (s.workFrame tin xin) := by
  have h1 : Moves T s { s with records := s.records.map (s.framed tin xin) } := by
    refine .table (.records _ (fun r _ => mild_frameOf _ r _ _) (fun ht => ?_) fun _ r _ => tame_frameOf _ r _ _)
    have : (s.records.map fun r => (s.framed tin xin r).position) = s.records.map (·.position) :=
      List.map_congr_left fun r _ => frameOf_position _ r _ _
    exact this ▸ (hT ht).2.2
  have h2 := h1.tail (.highways s.nextTrunkOut s.nextExchangeOut (s.workFrame tin xin).nextTrunkOut
    (s.workFrame tin xin).nextExchangeOut fun hw => ⟨hw.2.2.1, hw.2.2.2, by simp [State.workFrame, allPositions],
      by simp [State.workFrame, allPositions]⟩)
  rwa [← workFrame_records] at h2

theorem endSearches_moves (hT : T → s.TableSound) : Moves T s s.endSearches := by
  unfold State.endSearches
  refine foldl_moves (fun s p hT => ?_) allPositions hT
  split
  · exact (Moves.table (.complete _)).trans (Moves.table (.timeOut _))
  · exact .refl

end Sys2Proof.Machine
end

section
/-! SUPPORT. Every step is a run of moves, continued: the commands, the control line and the step itself. -/

namespace Sys2Proof.Machine

variable {T : Prop} {s : State} {id : Identity} {r : Record}

/-! ## Settings -/

theorem clampProfile_inRange (p : Profile) : (clampProfile p).InRange := by
  rw [profileInRange_iff]
  have h {lo hi : Nat} (hle : lo ≤ hi) (v : Nat) := clampNat_bounds hle v
  have hlo := (h (Nat.zero_le 32767) p.bandLow).2
  have hhi := (h (Nat.zero_le 32767) p.bandHigh).2
  have hmin := (h (by omega : 1024 ≤ 16383) p.gmin).1
  have hmax := h (by omega : 1024 ≤ 16383) p.gmax
  exact ⟨(h (Nat.zero_le 960) _).2, (h (Nat.zero_le 3) _).2, h (by omega) _, h (by omega) _, (h (Nat.zero_le 8191) _).2,
    h (by omega) _, h (by omega) _, (h (Nat.zero_le 4095) _).2, (h (Nat.zero_le 6) _).2, h (by omega) _, h (by omega) _,
    ⟨le_max_left _ _, max_le hlo hhi⟩, ⟨le_min hmin hmax.1, min_le_right _ _, hmax.2⟩, h (by omega) _,
    (h (Nat.zero_le 600) _).2⟩

theorem factorySettings_inRange : factorySettings.InRange := by
  intro n
  have : factorySettings.profiles.get n = factoryProfile := by
    simp [factorySettings, Vector.get]
  rw [this]
  decide

/-! ## The record commands -/

/-- A record that begins to cancel: its change, its claim and its request (R15, R21). -/
theorem beginCancel_moves {f : Record → Record} {p : Profile} (hf : KeysKept f)
    (plain : Moves T s (s.update id f)) (hc : ∃ r ∈ s.records, r.identity = id ∧ cancels (f r).state = true)
    (hr : T → ∀ r, s.recordOf id = some r → (r.StateSound → r.held = [] ∧ r.unplaced = []) ∧ r.SameModel (f r) ∧
      r.FieldsKept (s.profileOf r) (f r) ∧ cancels (f r).state = true ∧ s.profileOf r = p) :
    Moves T s ((s.update id f).beginCancel id p) := by
  unfold State.beginCancel
  split
  · rename_i hlimit
    have claim : Moves T s ((s.update id f).claimProvisional id p.provisionalOffset) :=
      .table (.claim id f _ hf fun ht r h => by
        obtain ⟨h1, h2, h3, h4, rfl⟩ := hr ht r h
        exact ⟨h1, h2, h3, h4, hlimit, rfl⟩)
    dsimp only
    split
    · refine claim.trans (Moves.table (.request _ _ ?_))
      obtain ⟨r, hr, hi, hc⟩ := hc
      have hmem : f r ∈ (s.update id f).records := List.mem_map.2 ⟨r, hr, by simp [hi]⟩
      obtain ⟨q, hq, hpc⟩ := forall2_exists_right (claimProvisional_poolStep (s.update id f) id p.provisionalOffset).records hmem
      exact mem_cancelling.2 ⟨q, hq, by rwa [poolChange_state hpc], by rw [poolChange_identity hpc, hf.identity, hi]⟩
    · exact claim
  · exact plain

theorem keysKept_id : KeysKept fun r => r := ⟨mild_refl, fun _ => rfl, fun _ => rfl⟩

theorem enter_settings (s : State) (pos : Position) (r : Record) : ((s.retireAt pos).enter r).settings = s.settings := by
  unfold State.enter State.retireAt
  split <;> rfl

theorem doAttach_moves (hT : T → s.TableSound) (position profile mode : Byte) :
    Moves T s (doAttach id position profile mode s).state := by
  unfold doAttach
  split <;> try exact .refl
  rename_i pos number m _ _ _
  split
  · exact .refl
  rename_i hdup
  split
  · exact .refl
  rename_i htaken
  split
  · refine Relation.ReflTransGen.tail (.single (.tallies _ fun hs => ?_)) (.aside _ _ _ _ _ _ _)
    obtain ⟨-, h2, h3, h4, h5⟩ := partSound_iff.1 hs
    exact partSound_iff.2 ⟨countUp_le _, h2, h3, h4, h5⟩
  rename_i hfull
  generalize chooseProfile s.settings id number m = choice
  have entered : Moves T s ((s.retireAt pos).enter
      (newRecord id pos choice.1 (s.settings.profiles.get choice.1) choice.2)) :=
    .table (.attach id pos choice.1 choice.2 (by simpa using hdup) (by simpa using htaken) (by simpa using hfull))
  simp only [attachAt]
  split
  · rename_i hmode
    refine entered.trans ?_
    have hmem : newRecord id pos choice.1 (s.settings.profiles.get choice.1) choice.2 ∈ ((s.retireAt pos).enter
        (newRecord id pos choice.1 (s.settings.profiles.get choice.1) choice.2)).records := by
      rw [attach_records]
      simp
    have hst : (newRecord id pos choice.1 (s.settings.profiles.get choice.1) choice.2).state = .settling := by
      rw [show choice.2 = .cancel by simpa using hmode]
      rfl
    have hself : ∀ t : State, t.update id (fun r => r) = t := fun t => update_eq_self fun _ _ _ => rfl
    have := beginCancel_moves (T := T) (s := (s.retireAt pos).enter
      (newRecord id pos choice.1 (s.settings.profiles.get choice.1) choice.2)) (id := id) (f := fun r => r)
      (p := s.settings.profiles.get choice.1) keysKept_id (by rw [hself]) ⟨_, hmem, rfl, by simp [hst, cancels]⟩
      fun ht r h => by
        rw [recordOf_eq_some_iff (entered.tableSound hT ht)] at h
        rw [eq_of_identity_eq (entered.tableSound hT ht) h.1 hmem h.2]
        exact ⟨fun _ => ⟨rfl, rfl⟩, .of_eq rfl rfl rfl, .of_untouched rfl, by simp [hst, cancels],
          by rw [profileOf_congr (enter_settings s pos _)]; rfl⟩
    rwa [hself] at this
  · exact entered

theorem doDetach_moves : Moves T s (doDetach id s).state := by
  unfold doDetach
  split
  · exact .refl
  · rename_i r h
    exact .table (.detach r (by rwa [(recordOf_some h).2]))

/-- The profile change of MODIFY leaves the record under the profile given (R19). -/
theorem recordOf_changeProfile (h : s.recordOf id = some r) (n : ProfileNumber) :
    ∃ q, (s.changeProfile r n).recordOf id = some q ∧ q.profile = n ∧ q.state = r.state := by
  by_cases hn : n = r.profile
  · exact ⟨r, by simpa [State.changeProfile, hn] using h, hn.symm, rfl⟩
  · rw [changeProfile_eq s r hn, (recordOf_some h).2]
    have hu := recordOf_update_self (s := (s.loseReference r.profile).gainReference n) (id := id) (r := r)
      (f := reprofiled (s.settings.profiles.get n) n) (fun _ => rfl) h
    obtain ⟨q, hq, hpc⟩ := (trim_poolStep _ r (s.settings.profiles.get n).windowLimit).recordOf hu
    exact ⟨q, hq, poolChange_profile hpc, (poolChange_state hpc).trans rfl⟩

theorem changeMode_moves (hT : T → s.TableSound) (mode : Option Mode) :
    Moves T s (s.changeMode id mode).1 := by
  unfold State.changeMode
  split
  · rename_i r hr
    split
    · exact .refl
    · rename_i hst
      refine .table (.retire id _ keysKept_transparentRecord fun _ q hq => ?_)
      rw [Option.some.inj (hq.symm.trans hr)]
      exact ⟨.of_eq rfl rfl rfl, fieldsKept_transparentRecord _ fun hl => hst (.inr hl)⟩
  · rename_i r hr
    split
    · rename_i hst
      have fields (q : Record) (hq : s.recordOf id = some q) : q.FieldsKept (s.profileOf q) (settlingRecord q) :=
        fieldsKept_settlingRecord _ (by rwa [Option.some.inj (hq.symm.trans hr)])
      refine beginCancel_moves (f := settlingRecord) keysKept_settlingRecord
        (update_moves hT keysKept_settlingRecord fun _ q hq => ⟨rfl, .of_eq rfl rfl rfl, fields q hq, fun _ => rfl⟩)
        ⟨r, (recordOf_some hr).1, (recordOf_some hr).2, rfl⟩ fun _ q hq => ?_
      refine ⟨fun hs => (stateSound_iff.1 hs).2 (.inl ?_), .of_eq rfl rfl rfl, fields q hq, rfl, ?_⟩
      · rwa [Option.some.inj (hq.symm.trans hr)]
      · rw [Option.some.inj (hq.symm.trans hr)]
    · exact .refl
  · exact .refl

/-- The profile change of a MODIFY, where it gives a profile (R19). -/
def State.reprofile (s : State) (r : Record) : Option ProfileNumber → State
  | some n => s.changeProfile r n
  | none => s

theorem modifyRecord_eq (r : Record) (mode : Option Mode) (freeze : Option Bool) (number : Option ProfileNumber)
    (padIn padOut : PadChange) (gainReset : Bool) (s : State) :
    modifyRecord r mode freeze number padIn padOut gainReset s =
      let s3 := ((s.reprofile r number).update r.identity (changeLevels
        (s.settings.profiles.get (number.getD r.profile)) gainReset padIn padOut freeze)).changeMode r.identity mode
      { state := s3.1, status := .ok, results := [indicateIf s3.2 .windowShort] } := by
  cases number <;> rfl

theorem reprofile_rowsKept (s : State) (r : Record) (number : Option ProfileNumber) :
    RowsKept s (s.reprofile r number) := by
  cases number with
  | none => exact .refl s
  | some n => exact changeProfile_rowsKept s r n

theorem recordOf_reprofile (h : s.recordOf id = some r) (number : Option ProfileNumber) :
    ∃ q, (s.reprofile r number).recordOf id = some q ∧ q.profile = number.getD r.profile ∧ q.state = r.state := by
  cases number with
  | none => exact ⟨r, h, rfl, rfl⟩
  | some n => exact recordOf_changeProfile h n

theorem modifyRecord_moves (hT : T → s.TableSound) (h : s.recordOf r.identity = some r) (mode : Option Mode)
    (freeze : Option Bool) (number : Option ProfileNumber) {padIn padOut : PadChange} (hpi : padIn.InRange)
    (hpo : padOut.InRange) (gainReset : Bool) :
    Moves T s (modifyRecord r mode freeze number padIn padOut gainReset s).state := by
  rw [modifyRecord_eq]
  have h1 : Moves T s (s.reprofile r number) := by
    cases number with
    | none => exact .refl
    | some n => exact .table (.changeProfile r n h)
  have h2 : Moves T s _ := h1.trans (update_moves (id := r.identity) (h1.tableSound hT) (keysKept_changeLevels
    (s.settings.profiles.get (number.getD r.profile)) gainReset padIn padOut freeze) fun _ q hq => ?_)
  · exact h2.trans (changeMode_moves (h2.tableSound hT) mode)
  · obtain ⟨x, hx, hprofile, -⟩ := recordOf_reprofile h number
    have : (s.reprofile r number).profileOf q = s.settings.profiles.get (number.getD r.profile) := by
      rw [Option.some.inj (hq.symm.trans hx), State.profileOf, (reprofile_rowsKept s r number).settings, hprofile]
    rw [this]
    exact tame_changeLevels _ _ hpi hpo _ q

theorem doModify_moves (hT : T → s.TableSound) (mode freeze profile : Byte) (padIn padOut : BitVec 16)
    (gainReset : Byte) : Moves T s (doModify id mode freeze profile padIn padOut gainReset s).state := by
  unfold doModify
  split
  · exact .refl
  split
  · rename_i m f g pin pout _ _ _ hpin hpout
    split
    · exact .refl
    · rename_i r h
      split
      · exact .refl
      · exact modifyRecord_moves hT (by rwa [(recordOf_some h).2]) _ _ _ (parsePad_inRange hpin)
          (parsePad_inRange hpout) _
  · exact .refl

/-! ## REBIND and MOVE_LINE -/

/-- A record that moves to a free position keeps the positions distinct (R1, R23). -/
theorem rebind_positions (hs : s.TableSound) {pos : Position} (hfree : s.recordAt pos = none) (id : Identity) :
    (s.records.map fun r => (if r.identity = id then rebindRecord pos r else r).position).Nodup := by
  refine List.Nodup.map_on ?_ (List.Nodup.of_map _ hs.2.1)
  intro a ha b hb hab
  have hne := recordAt_eq_none_iff.1 hfree
  split at hab <;> rename_i hia <;> split at hab <;> rename_i hib
  · exact eq_of_identity_eq hs ha hb (hia.trans hib.symm)
  · exact absurd hab.symm (hne b hb)
  · exact absurd hab (hne a ha)
  · exact eq_of_position_eq hs ha hb hab

theorem restartSearch_moves (s : State) (id : Identity) : Moves T s (s.restartSearch id) :=
  .table (.slots _ fun sl _ => by
    by_cases h : sl.identity = id
    · exact .inr (by simp [h])
    · exact .inl (by simp [h]))

theorem doRebind_moves (hT : T → s.TableSound) (position : Byte) : Moves T s (doRebind id position s).state := by
  unfold doRebind
  split
  · exact .refl
  rename_i pos _
  split
  · exact .refl
  rename_i r h
  split
  · exact .refl
  rename_i hl
  split
  · exact .refl
  rename_i hfree
  refine Relation.ReflTransGen.trans (b := s.update id (rebindRecord pos)) (Moves.table (.records
    (fun r => if r.identity = id then rebindRecord pos r else r) (fun q _ => ?_) (fun ht => ?_) fun ht q hq => ?_))
    (restartSearch_moves _ id)
  · split
    · exact mild_rebindRecord pos q
    · exact mild_refl q
  · exact rebind_positions (hT ht) (by simpa using hfree) id
  · split
    · rename_i hi
      have hqr : q = r := eq_of_identity_eq (hT ht) hq (recordOf_some h).1 (hi.trans (recordOf_some h).2.symm)
      exact tame_rebindRecord _ pos (by rwa [hqr])
    · exact tame_refl _ q

theorem sameSlotOn_val (line : Fin 4) (p : Position) : (sameSlotOn line p).val = line.val * 32 + p.val % 32 := rfl

theorem sameSlotOn_inj {a b : Fin 4} {p q : Position} (hp : lineOf p = a.val) (hq : lineOf q = a.val)
    (h : sameSlotOn b p = sameSlotOn b q) : p = q := by
  have := congrArg Fin.val h
  simp only [sameSlotOn_val] at this
  unfold lineOf at hp hq
  exact Fin.ext (by omega)

/-- What MOVE_LINE makes of a record (R25). -/
def movedRecord (a b : Fin 4) (r : Record) : Record :=
  if lineOf r.position = a.val then moveRecord (sameSlotOn b r.position) r else r

theorem movedRecord_position (a b : Fin 4) (r : Record) : (movedRecord a b r).position =
    if lineOf r.position = a.val then sameSlotOn b r.position else r.position := by
  unfold movedRecord
  split
  · exact moveRecord_position _ r
  · rfl

/-- A line that moves onto free positions keeps the positions distinct (R1, R25). -/
theorem moveLine_positions (hs : s.TableSound) {a b : Fin 4}
    (hfree : ¬((s.onLine a).any fun r => (s.recordAt (sameSlotOn b r.position)).isSome) = true) :
    (s.records.map fun r => (movedRecord a b r).position).Nodup := by
  have free : ∀ r ∈ s.records, lineOf r.position = a.val → ∀ q ∈ s.records, q.position ≠ sameSlotOn b r.position := by
    intro r hr hl q hq hqp
    refine hfree (List.any_eq_true.2 ⟨r, List.mem_filter.2 ⟨hr, by simpa using hl⟩, ?_⟩)
    rw [(recordAt_eq_some_iff hs).2 ⟨hq, hqp⟩]
    rfl
  refine List.Nodup.map_on ?_ (List.Nodup.of_map _ hs.2.1)
  intro x hx y hy hxy
  rw [movedRecord_position, movedRecord_position] at hxy
  split at hxy <;> rename_i hlx <;> split at hxy <;> rename_i hly
  · exact eq_of_position_eq hs hx hy (sameSlotOn_inj hlx hly hxy)
  · exact absurd hxy.symm (free x hx hlx y hy)
  · exact absurd hxy (free y hy hly x hx)
  · exact eq_of_position_eq hs hx hy hxy

theorem doMoveLine_moves (hT : T → s.TableSound) (fromLine toLine : Byte) :
    Moves T s (doMoveLine fromLine toLine s).state := by
  unfold doMoveLine
  split
  swap
  · exact .refl
  rename_i a b _ _
  split
  · exact .refl
  split
  · exact .refl
  rename_i hfree
  have h1 : Moves T s { s with records := s.records.map (movedRecord a b) } := by
    refine .table (.records _ (fun r _ => ?_) (fun ht => moveLine_positions (hT ht) hfree) fun _ r _ => ?_)
    · unfold movedRecord
      split
      · exact mild_moveRecord _ r
      · exact mild_refl r
    · unfold movedRecord
      split
      · exact tame_moveRecord _ _ r
      · exact tame_refl _ r
  refine h1.trans (Moves.table (.slots (fun sl => match s.recordOf sl.identity with
    | some r => if lineOf r.position = a.val then freshSlot sl.identity else sl
    | none => sl) fun sl _ => ?_))
  split
  · split
    · exact .inr rfl
    · exact .inl rfl
  · exact .inl rfl

theorem doResearch_moves (lane : Byte) : Moves T s (doResearch id lane s).state := by
  unfold doResearch
  split
  · exact .refl
  split
  · exact .refl
  rename_i r h
  split
  · exact .refl
  rename_i hl
  split
  · exact .refl
  rename_i hst
  refine request_moves _ h (cancels_iff.2 ?_)
  revert hl hst
  cases r.state <;> simp

theorem doAckAlarms_moves (hT : T → s.TableSound) (alarms : Byte) : Moves T s (doAckAlarms id alarms s).state := by
  unfold doAckAlarms
  split
  · exact .refl
  split
  · exact .refl
  · exact update_moves (f := fun q => { q with alarms := _ }) hT
      (.of_untouched (fun _ => rfl) (fun _ => rfl) (fun _ => rfl) (fun _ => rfl) fun _ => rfl) fun _ _ _ => .of_untouched rfl

/-! ## The other commands -/

theorem loadWorking_moves (h : s.records = []) : Moves T s s.loadWorking := .single (.loadWorking h)

theorem doStore_moves (s : State) : Moves T s (doStore s).state := by
  unfold doStore
  split
  · exact .refl
  rename_i hf
  split
  · exact .refl
  rename_i hw
  exact .single (.beginStore (by simpa using hf) (by omega))

theorem doProfileWrite_moves (number : Byte) (layout : List Byte) : Moves T s (doProfileWrite number layout s).state := by
  unfold doProfileWrite
  split
  · exact .refl
  split
  · exact .refl
  split
  · exact .refl
  split
  · exact .refl
  rename_i h
  exact .single (.setProfile _ _ (by simpa using h) (clampProfile_inRange _))

theorem doRuleWrite_moves (number enabled : Byte) (base mask : BitVec 16) (profile mode : Byte) :
    Moves T s (doRuleWrite number enabled base mask profile mode s).state := by
  unfold doRuleWrite
  split <;> try exact .refl
  dsimp only
  split
  · exact .refl
  · exact .single (.setRule _ _)

theorem doTally_moves (hT : T → s.TableSound) (selector clear : Byte) : Moves T s (doTally selector id clear s).state := by
  unfold doTally
  split
  · split
    · exact .refl
    · exact update_moves hT (keysKept_clearTallies _) fun _ _ _ => tame_clearTallies _ _ _
  · dsimp only
    split
    · exact .single (.tallies _ fun _ => partSound_iff.2 (by simp))
    · exact .refl
  · exact .refl

/-- Carrying out a command is a run of moves. -/
theorem carryOut_moves (hT : T → s.TableSound) (i : Instr) : Moves T s (carryOut i s).state := by
  cases i with
  | attach id position profile mode => exact doAttach_moves hT position profile mode
  | detach id => exact doDetach_moves
  | modify id mode freeze profile padIn padOut gainReset =>
    exact doModify_moves hT mode freeze profile padIn padOut gainReset
  | rebind id position => exact doRebind_moves hT position
  | moveLine a b => exact doMoveLine_moves hT a b
  | research id lane => exact doResearch_moves lane
  | look id => simp only [carryOut, doLook]; split <;> exact .refl
  | lookWindow id index =>
    simp only [carryOut, doLookWindow]
    split
    · exact .refl
    · split <;> exact .refl
  | find position =>
    simp only [carryOut, doFind]
    split
    · exact .refl
    · split <;> exact .refl
  | list states alarms start => simp only [carryOut, doList]; split <;> exact .refl
  | ackAlarms id alarms => exact doAckAlarms_moves hT alarms
  | profileRead number => simp only [carryOut, doProfileRead]; split <;> exact .refl
  | profileWrite number layout => exact doProfileWrite_moves number layout
  | ruleRead number => simp only [carryOut, doRuleRead]; split <;> exact .refl
  | ruleWrite number enabled base mask profile mode => exact doRuleWrite_moves number enabled base mask profile mode
  | ruleEnable number setting =>
    simp only [carryOut, doRuleEnable]
    split
    · exact .single (.setRule _ _)
    · exact .refl
  | store => exact doStore_moves s
  | load =>
    simp only [carryOut, doLoad]
    split
    · exact .refl
    rename_i hr
    split
    · exact .refl
    · exact loadWorking_moves (by simpa using hr)
  | events => exact .refl
  | ackEvents kinds => exact .single (.aside _ _ _ _ _ _ _)
  | setMask kinds => exact .single (.aside _ _ _ _ _ _ _)
  | tally selector id clear => exact doTally_moves hT selector clear
  | ident => exact .refl
  | restart => exact .single .restart
  | reset | frameSync | blockEnd | promotion | pathChange | entryToBypass | returnFromBypass | idleLapse | searchComplete
  | searchTimeout | storeComplete | commandFrameReceived | interByteGap | overrun | replySent | characterFault
  | powerLoss => exact .refl

end Sys2Proof.Machine
end

section
/-! SUPPORT. Every step is a run of moves: the control line's rows, and the step itself. -/

namespace Sys2Proof.Machine

variable {T : Prop} {s : State}

/-! ## The control line -/

theorem respond_moves (code : Byte) (a : Answer) : Moves T a.state (respond code a) := by
  unfold respond
  split
  · exact .refl
  · exact port_moves _ _

theorem setHearing_moves (s : State) (h : Hearing) : Moves T s (s.setHearing h) := port_moves s _

theorem lineFault_moves (s : State) : Moves T s s.lineFault := by
  refine Relation.ReflTransGen.tail (.single (.tallies
    { s.part with lineFaults := countUp s.part.lineFaults } fun hs => ?_)) (.aside _ _ _ _ _ _ _)
  obtain ⟨h1, -, h3, h4, h5⟩ := partSound_iff.1 hs
  exact partSound_iff.2 ⟨h1, countUp_le _, h3, h4, h5⟩

theorem takeBroadcast_moves (hT : T → s.TableSound) (code : Byte) (parameters : List Byte) :
    Moves T s (s.takeBroadcast code parameters) := by
  unfold State.takeBroadcast
  split
  · split
    · exact carryOut_moves hT _
    · exact .refl
    · exact .refl
  · exact .refl

theorem takeAddressed_moves (hT : T → s.TableSound) (code : Byte) (parameters : List Byte) :
    Moves T s (s.takeAddressed code parameters) := by
  unfold State.takeAddressed
  split
  · exact (carryOut_moves hT _).trans (respond_moves _ _)
  · exact respond_moves code (refuse s .unknownCommand)
  · exact respond_moves code (refuse s .badLength)

theorem judgeFrame_moves (hT : T → s.TableSound) (bytes : List Byte) : Moves T s (s.judgeFrame bytes) := by
  have hunt : Moves T s (s.setHearing .hunting) := setHearing_moves s _
  unfold State.judgeFrame
  split
  · exact lineFault_moves s
  split
  · exact hunt
  split
  · exact hunt.trans (takeBroadcast_moves (hunt.tableSound hT) _ _)
  split
  · exact hunt.trans (takeAddressed_moves (hunt.tableSound hT) _ _)
  · exact hunt

/-- The port hears a byte (R177, R178). -/
theorem hear_moves (s : State) (b : Byte) (hT : T → s.TableSound) : Moves T s (s.hear b) := by
  unfold State.hear
  split
  · split
    · split
      · refine Relation.ReflTransGen.tail (.single (.tallies
          { s.part with overruns := countUp s.part.overruns } fun hs => ?_)) (.aside _ _ _ _ _ _ _)
        obtain ⟨h1, h2, -, h4, h5⟩ := partSound_iff.1 hs
        exact partSound_iff.2 ⟨h1, h2, countUp_le _, h4, h5⟩
      · exact setHearing_moves s _
    · exact .refl
  · split
    · exact setHearing_moves s _
    · exact lineFault_moves s
    · exact judgeFrame_moves hT _
  · split <;> exact setHearing_moves s _

theorem hearAll_moves (hT : T → s.TableSound) (bytes : List Byte) : Moves T s (s.hearAll bytes) :=
  foldl_moves hear_moves bytes hT

theorem breakFrame_moves (s : State) : Moves T s s.breakFrame := by
  unfold State.breakFrame
  split
  · exact .refl
  · exact lineFault_moves s
  · exact setHearing_moves s _

/-! ## The store, the reset and the supply -/

theorem completeStore_moves (s : State) (verified : Bool) : Moves T s (s.completeStore verified) := by
  unfold State.completeStore
  split
  · exact .refl
  · rename_i snapshot h
    split
    · exact Relation.ReflTransGen.trans (.single (.commitStore snapshot h)) (raise_moves _ _)
    · exact Relation.ReflTransGen.trans (.single (.tearStore snapshot h)) (raise_moves _ _)

theorem cutStore_moves (s : State) : Moves T s s.cutStore := by
  unfold State.cutStore
  split
  · exact .refl
  · rename_i snapshot h
    exact .single (.tearStore snapshot h)

theorem takeReset_moves (s : State) (pin : ResetPin) (straps : StrapPins) : Moves T s (s.takeReset pin straps) := by
  cases pin with
  | held => exact Relation.ReflTransGen.tail (.single (.reset s.port.address s.port.rate)) (.aside _ true _ _ _ _ _)
  | released => exact .single (.reset straps.address (rateOf straps.rate))

/-! ## The step -/

theorem whileRunning_cases {f : State → State} {t : State} (h : whileRunning s f = .next t) : t = s ∨ t = f s := by
  rw [whileRunning_next] at h
  cases h
  split
  · exact .inr rfl
  · exact .inl rfl

theorem whileRunning_moves {f : State → State} {t : State} (h : whileRunning s f = .next t) (hf : Moves T s (f s)) :
    Moves T s t := by
  rcases whileRunning_cases h with rfl | rfl
  · exact .refl
  · exact hf

theorem takeCommand_moves {code : Byte} {act : State → Answer} {t : State} (h : takeCommand code act s = .next t)
    (ha : Moves T s (act s).state) : Moves T s t := whileRunning_moves h (ha.trans (respond_moves code _))

/-- One frame is a run of moves, the accumulation of the searches, and the run of moves of those that end (R36, R101,
R108). -/
theorem execFrameSync_moves (hT : T → s.TableSound) {tin xin : List Sample} {t : State}
    (h : execFrameSync tin xin s = .next t) :
    ∃ u, Moves T s u ∧ (t = u ∨ t = (u.accumulateSearches xin).endSearches) := by
  rcases whileRunning_cases (f := fun s => s.takeFrame tin xin) h with ht | ht
  · exact ⟨s, .refl, .inl ht⟩
  · have h1 : Moves T s s.endBlock.advancePhase := (endBlock_moves hT).tail (.aside _ _ _ _ _ _ _)
    exact ⟨s.endBlock.advancePhase.workFrame tin xin, h1.trans (workFrame_moves (h1.tableSound hT) tin xin),
      .inr (by rw [ht, State.takeFrame])⟩

/-- A step other than a frame is a run of moves. -/
theorem exec_moves (hT : T → s.TableSound) {i : Instr} {t : State} (h : exec i s = .next t)
    (hi : ∀ tin xin, i ≠ .frameSync tin xin) : Moves T s t := by
  have command {code : Byte} {act : State → Answer} (j : Instr) (ha : act s = carryOut j s)
      (h : takeCommand code act s = .next t) : Moves T s t := takeCommand_moves h (ha ▸ carryOut_moves hT j)
  cases i with
  | reset pin straps => cases h; exact takeReset_moves s pin straps
  | frameSync tin xin => exact absurd rfl (hi tin xin)
  | blockEnd => exact whileRunning_moves h (endBlock_moves hT)
  | promotion id => exact whileRunning_moves (f := fun s => s.promoteIfDue id) h (promoteIfDue_moves hT id)
  | pathChange id => exact whileRunning_moves (f := fun s => s.changePathIfDue id) h (changePathIfDue_moves hT id)
  | entryToBypass id => exact whileRunning_moves (f := fun s => s.enterBypassIfDue id) h (enterBypassIfDue_moves id)
  | returnFromBypass id => exact whileRunning_moves (f := fun s => s.returnIfDue id) h (returnIfDue_moves hT id)
  | idleLapse id => exact whileRunning_moves (f := fun s => s.lapseIfDue id) h (lapseIfDue_moves id)
  | searchComplete id => exact whileRunning_moves (f := fun s => s.completeSearch id) h (Moves.table (.complete id))
  | searchTimeout id => exact whileRunning_moves (f := fun s => s.timeOutSearch id) h (Moves.table (.timeOut id))
  | storeComplete verified => exact whileRunning_moves (f := fun s => s.completeStore verified) h (completeStore_moves s verified)
  | commandFrameReceived bytes => exact whileRunning_moves (f := fun s => s.hearAll bytes) h (hearAll_moves hT bytes)
  | interByteGap heard next =>
    have h1 : Moves T s (s.hearAll heard).breakFrame := (hearAll_moves hT heard).trans (breakFrame_moves _)
    exact whileRunning_moves (f := fun s => (s.hearAll heard).breakFrame.hear next) h (h1.trans (hear_moves _ next (h1.tableSound hT)))
  | overrun rest =>
    refine whileRunning_moves (f := fun s => if s.isBusy then s.hearAll (syncByte :: rest) else s) h ?_
    split
    · exact hearAll_moves hT _
    · exact .refl
  | replySent => exact whileRunning_moves (f := fun s => { s with port := { s.port with reply := none } }) h (port_moves s _)
  | attach id position profile mode => exact command (.attach id position profile mode) rfl h
  | detach id => exact command (.detach id) rfl h
  | modify id mode freeze profile padIn padOut gainReset =>
    exact command (.modify id mode freeze profile padIn padOut gainReset) rfl h
  | rebind id position => exact command (.rebind id position) rfl h
  | moveLine a b => exact command (.moveLine a b) rfl h
  | research id lane => exact command (.research id lane) rfl h
  | look id => exact command (.look id) rfl h
  | lookWindow id index => exact command (.lookWindow id index) rfl h
  | find position => exact command (.find position) rfl h
  | list states alarms start => exact command (.list states alarms start) rfl h
  | ackAlarms id alarms => exact command (.ackAlarms id alarms) rfl h
  | profileRead number => exact command (.profileRead number) rfl h
  | profileWrite number layout => exact command (.profileWrite number layout) rfl h
  | ruleRead number => exact command (.ruleRead number) rfl h
  | ruleWrite number enabled base mask profile mode =>
    exact command (.ruleWrite number enabled base mask profile mode) rfl h
  | ruleEnable number setting => exact command (.ruleEnable number setting) rfl h
  | store => exact command .store rfl h
  | load => exact command .load rfl h
  | events => exact command .events rfl h
  | ackEvents kinds => exact command (.ackEvents kinds) rfl h
  | setMask kinds => exact command (.setMask kinds) rfl h
  | tally selector id clear => exact command (.tally selector id clear) rfl h
  | ident => exact command .ident rfl h
  | restart => exact command .restart rfl h
  | characterFault heard => exact whileRunning_moves (f := fun s => (s.hearAll heard).breakFrame) h ((hearAll_moves hT heard).trans (breakFrame_moves _))
  | powerLoss =>
    cases h
    split
    · exact (cutStore_moves s).tail (.aside false _ _ _ _ _ _)
    · exact .refl

/-- What one step can do: it takes its command from the queue and makes a run of moves, at most followed by a frame's
accumulation and endings of searches. -/
theorem step_moves (hT : T → s.TableSound) {t : State} (h : step s = .next t) :
    ∃ rest u, Moves T { s with pending := rest } u ∧ (t = u ∨ ∃ xin, t = (u.accumulateSearches xin).endSearches) := by
  unfold step at h
  split at h
  · cases h
    exact ⟨s.pending, s, .refl, .inl rfl⟩
  · rename_i i rest _
    by_cases hi : ∃ tin xin, i = .frameSync tin xin
    · obtain ⟨tin, xin, rfl⟩ := hi
      have hframe : execFrameSync tin xin { s with pending := rest } = .next t := h
      obtain ⟨u, hu, ht⟩ := execFrameSync_moves (s := { s with pending := rest }) hT hframe
      exact ⟨rest, u, hu, ht.imp_right fun ht => ⟨xin, ht⟩⟩
    · exact ⟨rest, t, exec_moves (s := { s with pending := rest }) hT h fun tin xin he => hi ⟨tin, xin, he⟩, .inl rfl⟩

/-- What every move and every accumulation of searches keep, and the queue does not bear on, every step keeps. -/
theorem step_keeps {P : State → Prop} (hmove : ∀ s t, Move T s t → P s → P t)
    (haccumulate : ∀ s xin, P s → P (s.accumulateSearches xin)) (hqueue : ∀ s rest, P s → P { s with pending := rest })
    (hT : T → s.TableSound) {t : State} (h : step s = .next t) (hs : P s) : P t := by
  obtain ⟨rest, u, hu, ht | ⟨xin, ht⟩⟩ := step_moves hT h <;> rw [ht]
  · exact Moves.keep (P := P) hmove hu (hqueue s rest hs)
  · have htable : T → u.TableSound := Moves.tableSound (s := { s with pending := rest }) hu hT
    exact Moves.keep (P := P) hmove (endSearches_moves (s := u.accumulateSearches xin) htable)
      (haccumulate u xin (Moves.keep (P := P) hmove hu (hqueue s rest hs)))

end Sys2Proof.Machine
end

section
/-! SUPPORT. The settings, the store, the tallies, the talk counts, the highways, the table and the reference counts:
what every step keeps of them (O55, O56). -/

namespace Sys2Proof.Machine

variable {T : Prop} {s t : State}

/-! ## What the moves of the table leave -/

theorem attach_apart (s : State) (pos : Position) (r : Record) :
    State.SameApart { s with refCounts := ((s.retireAt pos).enter r).refCounts } ((s.retireAt pos).enter r) := by
  unfold State.enter State.retireAt
  split <;> rfl

theorem detach_apart (s : State) (r : Record) :
    State.SameApart { s with refCounts := (s.detachRecord r).refCounts } (s.detachRecord r) := by
  have h1 : State.SameApart { s with refCounts := (s.detachRecord r).refCounts }
      { s.releaseAll r.identity with refCounts := (s.detachRecord r).refCounts } := by
    rw [sameApart_iff]
    have := sameApart_iff.1 (releaseAll_poolStep s r.identity).apart
    tauto
  have hrefs : (s.detachRecord r).refCounts = ((s.releaseAll r.identity).loseReference r.profile).refCounts := by
    simp only [State.detachRecord, cancelSearch_refCounts]
    rfl
  refine sameApart_trans h1 (sameApart_trans (t := State.loseReference
    { s.releaseAll r.identity with
      records := (s.releaseAll r.identity).records.filter (·.identity != r.identity) } r.profile) ?_
    (cancelSearch_sameApart _ _))
  rw [hrefs]
  rfl

/-- No move of the table touches the settings, the store, the highways, or what neither the table, the search unit, the
pool nor the tallies hold. -/
theorem TableMove.apart (h : TableMove T s t) : State.SameApart { s with refCounts := t.refCounts } t := by
  cases h with
  | records | slots => rfl
  | request l id => exact (request_rowsKept s l id).apart
  | claim id f o hf => exact ((update_rowsKept s id hf).trans (claimProvisional_poolStep _ _ _).rowsKept).apart
  | changeProfile r number => exact (changeProfile_rowsKept s r number).apart
  | leave id f hf => exact ((update_rowsKept s id hf).trans (cancelSearch_rowsKept _ _)).apart
  | retire id f hf =>
    exact (((update_rowsKept s id hf).trans (releaseAll_poolStep _ _).rowsKept).trans (cancelSearch_rowsKept _ _)).apart
  | complete id => exact (completeSearch_rowsKept s id).apart
  | timeOut id => exact (timeOutSearch_rowsKept s id).apart
  | attach => exact attach_apart s _ _
  | detach r => exact detach_apart s r

theorem RowsKept.mild (h : RowsKept s t) {q : Record} (hq : q ∈ t.records) : ∃ r ∈ s.records, r.Mild q := by
  obtain ⟨r, hr, hk⟩ := forall2_exists_left h.records hq
  exact ⟨r, hr, hk.1⟩

/-- After a move of the table every record is a mild change of one from before, or new with its tallies and block working
values at their starts. -/
theorem TableMove.rows (h : TableMove T s t) {q : Record} (hq : q ∈ t.records) :
    (∃ r ∈ s.records, r.Mild q) ∨ (q.tallies = {} ∧ q.block = {}) := by
  cases h with
  | records g mild _ _ => exact .inl (forall2_exists_left (records_mild mild) hq)
  | slots => exact .inl ⟨q, hq, mild_refl q⟩
  | request l id => exact .inl ((request_rowsKept s l id).mild hq)
  | claim id f o hf =>
    exact .inl (((update_rowsKept s id hf).trans (claimProvisional_poolStep _ _ _).rowsKept).mild hq)
  | changeProfile r number => exact .inl ((changeProfile_rowsKept s r number).mild hq)
  | leave id f hf => exact .inl (((update_rowsKept s id hf).trans (cancelSearch_rowsKept _ _)).mild hq)
  | retire id f hf =>
    exact .inl ((((update_rowsKept s id hf).trans (releaseAll_poolStep _ _).rowsKept).trans
      (cancelSearch_rowsKept _ _)).mild hq)
  | complete id => exact .inl ((completeSearch_rowsKept s id).mild hq)
  | timeOut id => exact .inl ((timeOutSearch_rowsKept s id).mild hq)
  | attach =>
    rw [attach_records] at hq
    rcases List.mem_append.1 hq with hq | hq
    · exact .inl ⟨q, (List.mem_filter.1 hq).1, mild_refl q⟩
    · rw [List.mem_singleton.1 hq]
      exact .inr ⟨rfl, rfl⟩
  | detach r =>
    rw [detach_records] at hq
    exact .inl ((releaseAll_poolStep s r.identity).rowsKept.mild (List.mem_filter.1 hq).1)

theorem TableMove.partSound (h : TableMove T s t) (hs : s.part.Sound) : t.part.Sound := by
  cases h with
  | records | slots => exact hs
  | request l id => exact (request_rowsKept s l id).part hs
  | claim id f o hf => exact ((update_rowsKept s id hf).trans (claimProvisional_poolStep _ _ _).rowsKept).part hs
  | changeProfile r number => exact (changeProfile_rowsKept s r number).part hs
  | leave id f hf => exact ((update_rowsKept s id hf).trans (cancelSearch_rowsKept _ _)).part hs
  | retire id f hf =>
    exact (((update_rowsKept s id hf).trans (releaseAll_poolStep _ _).rowsKept).trans
      (cancelSearch_rowsKept _ _)).part hs
  | complete id => exact (completeSearch_rowsKept s id).part hs
  | timeOut id => exact (timeOutSearch_rowsKept s id).part hs
  | attach =>
    have hp : ∀ pos r, ((s.retireAt pos).enter r).part = s.part := by
      intro pos r
      unfold State.enter State.retireAt
      split <;> rfl
    rwa [hp]
  | detach r =>
    have hp : (s.detachRecord r).part = (s.releaseAll r.identity).part := by
      simp only [State.detachRecord, cancelSearch_part]
      rfl
    rw [hp]
    exact (releaseAll_poolStep s r.identity).partSound hs

/-! ## The settings and the store -/

theorem cutStore_store (s : State) :
    s.cutStore.store = s.store ∨ (s.cutStore.store.valid = false ∧ s.cutStore.store.inFlight = none ∧
      s.cutStore.store.wear = s.store.wear) := by
  unfold State.cutStore
  split
  · exact .inl rfl
  · exact .inr ⟨rfl, rfl, rfl⟩

/-- A table move keeps what is said of the settings and the store alone. -/
theorem TableMove.settings_store (h : TableMove T s t) : t.settings = s.settings ∧ t.store = s.store := by
  rw [h.apart]
  exact ⟨rfl, rfl⟩

theorem setProfile_inRange {c : Settings} (hc : c.InRange) (n : ProfileNumber) {p : Profile} (hp : p.InRange) :
    Settings.InRange { c with profiles := c.profiles.set n.val p n.isLt } := by
  intro m
  have hget : (c.profiles.set n.val p n.isLt).get m = if n.val = m.val then p else c.profiles.get m := by
    simp only [Vector.get_eq_getElem, Vector.getElem_set]
  rw [hget]
  split
  · exact hp
  · exact hc m

theorem Move.settingsSound (h : Move T s t) (hs : s.SettingsSound) : t.SettingsSound := by
  obtain ⟨hc, hv, hf⟩ := hs
  cases h with
  | table h =>
    obtain ⟨h1, h2⟩ := h.settings_store
    unfold State.SettingsSound
    rw [h1, h2]
    exact ⟨hc, hv, hf⟩
  | aside | tallies | highways | setRule => exact ⟨hc, hv, hf⟩
  | beginStore => exact ⟨hc, by simp, by simpa using hc⟩
  | commitStore snapshot hfl => exact ⟨hc, fun _ => hf snapshot hfl, by simp⟩
  | tearStore => exact ⟨hc, by simp [State.tearStore], by simp [State.tearStore]⟩
  | loadWorking =>
    obtain ⟨c, e, he, hcase⟩ := loadWorking_shape s
    rw [he]
    refine ⟨?_, hv, hf⟩
    rcases hcase with rfl | ⟨hval, rfl⟩
    · exact factorySettings_inRange
    · exact hv hval
  | setProfile n p _ hp => exact ⟨setProfile_inRange hc n hp, hv, hf⟩
  | reset address rate =>
    obtain ⟨c, e, he, hcase⟩ := resetPart_shape s address rate
    rw [he]
    have hstore : (s.cutStore.store.valid = true → s.cutStore.store.contents.InRange) ∧
        ∀ d ∈ s.cutStore.store.inFlight, d.InRange := by
      rcases cutStore_store s with hst | ⟨hval, hfl, -⟩
      · rw [hst]; exact ⟨hv, hf⟩
      · simp [hval, hfl]
    refine ⟨?_, hstore⟩
    rcases hcase with rfl | ⟨hval, rfl⟩
    · exact factorySettings_inRange
    · exact hstore.1 hval
  | restart => exact ⟨hc, hv, hf⟩

theorem Move.storeSound (h : Move T s t) (hs : s.StoreSound) : t.StoreSound := by
  obtain ⟨hw, hf⟩ := hs
  cases h with
  | table h =>
    unfold State.StoreSound
    rw [h.settings_store.2]
    exact ⟨hw, hf⟩
  | aside | tallies | highways | setRule | setProfile | restart => exact ⟨hw, hf⟩
  | beginStore _ hlt => exact ⟨hlt, fun _ => rfl⟩
  | commitStore => exact ⟨hw, by simp⟩
  | tearStore => exact ⟨hw, fun _ => rfl⟩
  | loadWorking =>
    obtain ⟨c, e, he, -⟩ := loadWorking_shape s
    rw [he]
    exact ⟨hw, hf⟩
  | reset address rate =>
    obtain ⟨c, e, he, -⟩ := resetPart_shape s address rate
    rw [he]
    unfold State.StoreSound
    dsimp only
    rcases cutStore_store s with hst | ⟨hval, hfl, hwe⟩
    · rw [hst]; exact ⟨hw, hf⟩
    · rw [hwe]; exact ⟨hw, fun _ => hval⟩

/-! ## The tallies, the talk counts and the highways -/

theorem Move.talliesSound (h : Move T s t) (hs : s.TalliesSound) : t.TalliesSound := by
  obtain ⟨hp, hr⟩ := hs
  have hzero : Tallies.Sound {} := by decide
  have hnone : PartTallies.Sound {} := by decide
  cases h with
  | table h =>
    refine ⟨h.partSound hp, fun q hq => ?_⟩
    rcases h.rows hq with ⟨r, hmem, hm⟩ | ⟨ht, -⟩
    · exact hm.tallies (hr r hmem)
    · rwa [ht]
  | aside | highways | beginStore | commitStore | tearStore | setRule | setProfile => exact ⟨hp, hr⟩
  | tallies part h => exact ⟨h hp, hr⟩
  | loadWorking =>
    obtain ⟨c, e, he, -⟩ := loadWorking_shape s
    rw [he]
    exact ⟨hp, hr⟩
  | reset address rate =>
    obtain ⟨c, e, he, -⟩ := resetPart_shape s address rate
    rw [he]
    exact ⟨hnone, by simp [State.reset]⟩
  | restart => exact ⟨hnone, by simp⟩

theorem Move.talkCountsSound (h : Move T s t) (hs : s.TalkCountsSound) : t.TalkCountsSound := by
  cases h with
  | table h =>
    intro q hq
    rcases h.rows hq with ⟨r, hmem, hm⟩ | ⟨-, hb⟩
    · exact hm.talkCounts (hs r hmem)
    · rw [hb]; rfl
  | aside | highways | beginStore | commitStore | tearStore | setRule | setProfile | tallies => exact hs
  | loadWorking =>
    obtain ⟨c, e, he, -⟩ := loadWorking_shape s
    rw [he]
    exact hs
  | reset address rate =>
    obtain ⟨c, e, he, -⟩ := resetPart_shape s address rate
    rw [he]
    simp [State.TalkCountsSound, State.reset]
  | restart => simp [State.TalkCountsSound]

theorem Move.highwaysSound (h : Move T s t) (hs : s.HighwaysSound) : t.HighwaysSound := by
  cases h with
  | table h =>
    rw [h.apart]
    exact hs
  | aside | tallies | beginStore | commitStore | tearStore | setRule | setProfile | restart => exact hs
  | highways a b c d h => exact h hs
  | loadWorking =>
    obtain ⟨c, e, he, -⟩ := loadWorking_shape s
    rw [he]
    exact hs
  | reset address rate =>
    obtain ⟨c, e, he, -⟩ := resetPart_shape s address rate
    rw [he]
    simp [State.HighwaysSound, State.reset, silentHighway]

/-! ## The reference counts -/

/-- The reference counts are the profiles' (R163), by an equation for each. -/
theorem gainReference_get (s : State) (p n : ProfileNumber) :
    (s.gainReference p).refCounts.get n = if n = p then s.refCounts.get n + 1 else s.refCounts.get n := by
  simp only [State.gainReference, Vector.get_eq_getElem, Vector.getElem_set]
  by_cases h : n = p
  · simp [h]
  · have : p.val ≠ n.val := fun he => h (Fin.ext he.symm)
    simp [h, this]

theorem loseReference_get (s : State) (p n : ProfileNumber) :
    (s.loseReference p).refCounts.get n = if n = p then s.refCounts.get n - 1 else s.refCounts.get n := by
  simp only [State.loseReference, Vector.get_eq_getElem, Vector.getElem_set]
  by_cases h : n = p
  · simp [h]
  · have : p.val ≠ n.val := fun he => h (Fin.ext he.symm)
    simp [h, this]

theorem referencesSound_of_profiles {s t : State} (hp : t.records.map (·.profile) = s.records.map (·.profile))
    (hr : t.refCounts = s.refCounts) (hs : s.ReferencesSound) : t.ReferencesSound := by
  intro n
  have count (rs : List Record) : rs.countP (fun r => r.profile == n) = (rs.map (·.profile)).countP (· == n) := by
    rw [List.countP_map]; rfl
  rw [hr, hs n, count, count, hp]

theorem PoolStep.profiles (h : PoolStep s t) : t.records.map (·.profile) = s.records.map (·.profile) :=
  forall2_map_eq (·.profile) (fun _ _ => poolChange_profile) h.records

theorem PoolStep.referencesSound (h : PoolStep s t) (hs : s.ReferencesSound) : t.ReferencesSound :=
  referencesSound_of_profiles h.profiles (sameApart_refCounts h.apart) hs

theorem update_referencesSound {id : Identity} {f : Record → Record} (hf : ∀ r, (f r).profile = r.profile)
    (hs : s.ReferencesSound) : (s.update id f).ReferencesSound := by
  refine referencesSound_of_profiles (s := s) ?_ rfl hs
  rw [State.update_records, List.map_map]
  refine List.map_congr_left fun r _ => ?_
  by_cases h : r.identity = id <;> simp [h, hf]

/-- The number of records that name a profile, when one record comes to name another. -/
theorem countP_update_profile {s : State} (hs : s.TableSound) {r : Record} (hr : r ∈ s.records) {f : Record → Record}
    {m : ProfileNumber} (hf : (f r).profile = m) (n : ProfileNumber) :
    (s.update r.identity f).records.countP (fun q => q.profile == n) + (if r.profile = n then 1 else 0) =
      s.records.countP (fun q => q.profile == n) + (if m = n then 1 else 0) := by
  have hnd : (s.records.map (·.identity)).Nodup := hs.2.1
  rw [State.update_records]
  generalize s.records = rs at hr hnd
  induction rs with
  | nil => simp at hr
  | cons q qs ih =>
    rw [List.map_cons, List.nodup_cons] at hnd
    obtain ⟨hq, hnd⟩ := hnd
    rw [List.map_cons, List.countP_cons, List.countP_cons]
    rcases List.mem_cons.1 hr with rfl | hr
    · have hrest : (qs.map fun x => if x.identity = r.identity then f x else x) = qs := by
        refine (List.map_congr_left fun x hx => ?_).trans (List.map_id qs)
        rw [if_neg fun he => hq (List.mem_map.2 ⟨x, hx, he⟩)]
        rfl
      rw [hrest, if_pos rfl, hf]
      simp only [beq_iff_eq]
      omega
    · have hne : q.identity ≠ r.identity := fun he => hq (List.mem_map.2 ⟨r, hr, he.symm⟩)
      have := ih hr hnd
      rw [if_neg hne]
      omega

/-- The number of records that name a profile, when a record is taken out of the table. -/
theorem countP_filter_out {rs : List Record} {P : Record → Bool} {r : Record} (hr : r ∈ rs) (hnd : rs.Nodup)
    (hP : ∀ q ∈ rs, P q = false ↔ q = r) (n : ProfileNumber) :
    (rs.filter P).countP (fun q => q.profile == n) = rs.countP (fun q => q.profile == n) - if r.profile = n then 1 else 0 := by
  have herase : rs.filter P = rs.erase r := by
    rw [hnd.erase_eq_filter]
    refine List.filter_congr fun q hq => ?_
    have := hP q hq
    by_cases he : q = r
    · simp [he, (hP r hr).2 rfl]
    · simp [he, (Bool.not_eq_false _).mp fun hf => he (this.1 hf)]
  rw [herase, List.countP_erase]
  simp [hr]

/-- What pool operations, the freeing of a slot and the changes of the record keep, a search keeps until the arbiter acts
on its completion (R103 to R109, R121, R122). -/
theorem completeSearch_keeps {P Q : State → Prop} (hpool : ∀ u v, PoolStep u v → P u → P v)
    (hfree : ∀ u id, P u → P (State.freeSlot u id)) (harb : ∀ u, P u → Q (State.arbitrate u))
    (hnote : ∀ u id res, P u → P (State.update u id (noteResult res)))
    (hsettle : ∀ u id before, P u → P (State.update u id (settleState before))) {s : State} (id : Identity) (hP : P s)
    (hQ : Q s) : Q (s.completeSearch id) := by
  unfold State.completeSearch
  split
  · split
    · refine harb _ ?_
      have noted := fun j res => hnote (s.freeSlot id) j res (hfree s id hP)
      unfold State.judgeSearch
      split
      · rw [install_eq]
        exact hpool _ _ (grantAll_poolStep _) (hsettle _ _ _ (hpool _ _ (placed_poolStep _ _ _) (noted _ _)))
      · exact hpool _ _ (releaseAll_poolStep _ _) (noted _ _)
    · exact hQ
  · exact hQ

theorem reprofile_referencesSound {s : State} (hs : s.TableSound) (href : s.ReferencesSound) {r : Record}
    (hr : s.recordOf r.identity = some r) {number : ProfileNumber} (hne : number ≠ r.profile) (p : Profile) :
    (((s.loseReference r.profile).gainReference number).update r.identity (reprofiled p number)).ReferencesSound := by
  intro n
  have hcount := countP_update_profile hs (recordOf_some hr).1 (f := reprofiled p number) (m := number) rfl n
  have hmem : 0 < s.records.countP (fun q => q.profile == r.profile) :=
    List.countP_pos_iff.2 ⟨r, (recordOf_some hr).1, by simp⟩
  have hn := href n
  change ((s.loseReference r.profile).gainReference number).refCounts.get n =
    (s.update r.identity (reprofiled p number)).records.countP (fun q => q.profile == n)
  rw [gainReference_get, loseReference_get]
  by_cases h1 : n = number
  · subst h1
    rw [if_pos rfl, if_neg hne, hn]
    rw [if_neg (Ne.symm hne), if_pos rfl] at hcount
    omega
  · by_cases h2 : n = r.profile
    · subst h2
      rw [if_neg h1, if_pos rfl, hn]
      rw [if_pos rfl, if_neg (Ne.symm h1)] at hcount
      omega
    · rw [if_neg h1, if_neg h2, hn]
      rw [if_neg (Ne.symm h2), if_neg (Ne.symm h1)] at hcount
      omega

theorem attach_referencesSound {s : State} (hs : s.TableSound) (href : s.ReferencesSound) (pos : Position) (r : Record) :
    ((s.retireAt pos).enter r).ReferencesSound := by
  intro n
  have retired : (s.retireAt pos).refCounts.get n = (s.records.filter (·.position != pos)).countP (fun q => q.profile == n) := by
    unfold State.retireAt
    rcases hat : s.recordAt pos with _ | q
    · dsimp only
      rw [href n, List.filter_eq_self.2]
      intro x hx
      simpa using recordAt_eq_none_iff.1 hat x hx
    · obtain ⟨hq, hqp⟩ := recordAt_some hat
      dsimp only
      rw [loseReference_get, countP_filter_out hq (List.Nodup.of_map _ hs.2.1) (fun x hx => ?_), ← href n]
      · by_cases h : n = q.profile
        · simp [h]
        · simp [h, Ne.symm h]
      · constructor
        · intro h
          exact eq_of_position_eq hs hx hq ((by simpa using h : x.position = pos).trans hqp.symm)
        · rintro rfl
          simp [hqp]
  rw [attach_records, List.countP_append, ← retired]
  unfold State.enter
  rw [gainReference_get]
  by_cases h : n = r.profile
  · simp [h]
  · simp [h, Ne.symm h]

theorem detach_refCounts (s : State) (r : Record) (n : ProfileNumber) : (s.detachRecord r).refCounts.get n =
    if n = r.profile then s.refCounts.get n - 1 else s.refCounts.get n := by
  have h : (s.detachRecord r).refCounts = (State.loseReference
      { s.releaseAll r.identity with
        records := (s.releaseAll r.identity).records.filter (·.identity != r.identity) } r.profile).refCounts := by
    simp only [State.detachRecord, cancelSearch_refCounts]
    rfl
  rw [h, loseReference_get]
  dsimp only
  rw [sameApart_refCounts (releaseAll_poolStep s r.identity).apart]

theorem detach_referencesSound {s : State} (hs : s.TableSound) (href : s.ReferencesSound) {r : Record}
    (hr : s.recordOf r.identity = some r) : (s.detachRecord r).ReferencesSound := by
  intro n
  have hP := releaseAll_poolStep s r.identity
  have hu := hP.tableSound hs
  obtain ⟨q, hq, hpc⟩ := hP.recordOf hr
  obtain ⟨hqm, hqi⟩ := recordOf_some hq
  rw [detach_refCounts, detach_records, countP_filter_out hqm (List.Nodup.of_map _ hu.2.1) (fun x hx => ?_),
    ← hP.referencesSound href n, sameApart_refCounts hP.apart, poolChange_profile hpc]
  · by_cases h : n = r.profile
    · simp [h]
    · simp [h, Ne.symm h]
  · constructor
    · intro h
      exact eq_of_identity_eq hu hx hqm ((by simpa using h : x.identity = r.identity).trans hqi.symm)
    · rintro rfl
      simp [hqi]

theorem TableMove.referencesSound (h : TableMove T s t) (hT : T) (hs : s.TableSound) (href : s.ReferencesSound) :
    t.ReferencesSound := by
  cases h with
  | records g _ _ tame =>
    refine referencesSound_of_profiles (s := s) ?_ rfl href
    rw [List.map_map]
    exact List.map_congr_left fun r hr => (tame hT r hr).profile
  | slots => exact href
  | request l id => exact referencesSound_of_profiles (by rw [request_records]) (request_refCounts s l id) href
  | claim id f o hf => exact (claimProvisional_poolStep _ _ _).referencesSound (update_referencesSound hf.profile href)
  | changeProfile r number hr =>
    by_cases hne : number = r.profile
    · simpa [State.changeProfile, hne] using href
    · rw [changeProfile_eq s r hne]
      exact (trim_poolStep _ _ _).referencesSound (reprofile_referencesSound hs href hr hne _)
  | leave id f hf =>
    exact referencesSound_of_profiles (by rw [cancelSearch_records]) (cancelSearch_refCounts _ _)
      (update_referencesSound hf.profile href)
  | retire id f hf =>
    exact referencesSound_of_profiles (by rw [cancelSearch_records]) (cancelSearch_refCounts _ _)
      ((releaseAll_poolStep _ _).referencesSound (update_referencesSound hf.profile href))
  | complete id =>
    exact completeSearch_keeps (P := State.ReferencesSound) (Q := State.ReferencesSound) (fun _ _ => PoolStep.referencesSound) (fun _ _ h => h)
      (fun u h => referencesSound_of_profiles (by rw [arbitrate_records]) (arbitrate_refCounts u) h)
      (fun _ _ _ h => update_referencesSound (fun _ => rfl) h)
      (fun _ _ _ h => update_referencesSound (keysKept_settleState _).profile h) id href href
  | timeOut id =>
    unfold State.timeOutSearch
    split
    · split
      · refine referencesSound_of_profiles (by rw [arbitrate_records]) (arbitrate_refCounts _) ?_
        exact update_referencesSound (s := s) (f := inconclusiveRecord) (fun _ => rfl) href
      · exact href
    · exact href
  | attach => exact attach_referencesSound hs href _ _
  | detach r hr => exact detach_referencesSound hs href hr

theorem referencesSound_empty {s : State} (hr : s.records = []) (hc : s.refCounts = Vector.replicate 8 0) :
    s.ReferencesSound := by
  intro n
  simp [hr, hc, Vector.get]

theorem Move.referencesSound (h : Move T s t) (hT : T) (hs : s.TableSound) (href : s.ReferencesSound) :
    t.ReferencesSound := by
  cases h with
  | table h => exact h.referencesSound hT hs href
  | aside | tallies | highways | beginStore | commitStore | tearStore | setProfile | setRule => exact href
  | loadWorking h =>
    obtain ⟨c, e, he, -⟩ := loadWorking_shape s
    rw [he]
    exact href
  | reset address rate =>
    obtain ⟨c, e, he, -⟩ := resetPart_shape s address rate
    rw [he]
    exact referencesSound_empty rfl rfl
  | restart => exact referencesSound_empty rfl rfl

end Sys2Proof.Machine

open Sys2Proof Sys2Proof.Machine

/-- Settles O55: each condition is kept by every move, from itself alone. -/
theorem stepKeepsSettingsAndTallies : Obligations.StepKeepsSettingsAndTallies := by
  intro s t h
  have hT : False → s.TableSound := False.elim
  exact ⟨step_keeps (fun _ _ => Move.settingsSound) (fun _ _ h => h) (fun _ _ h => h) hT h,
    step_keeps (fun _ _ => Move.storeSound) (fun _ _ h => h) (fun _ _ h => h) hT h,
    step_keeps (fun _ _ => Move.talliesSound) (fun _ _ h => h) (fun _ _ h => h) hT h,
    step_keeps (fun _ _ => Move.talkCountsSound) (fun _ _ h => h) (fun _ _ h => h) hT h,
    step_keeps (fun _ _ => Move.highwaysSound) (fun _ _ h => h) (fun _ _ h => h) hT h⟩

/-- Settles O56: the keys and the reference counts are kept by every move. -/
theorem stepKeepsTableAndReferences : Obligations.StepKeepsTableAndReferences := by
  intro s t h hs
  have hT : True → s.TableSound := fun _ => hs
  refine ⟨step_keeps (P := State.TableSound) (fun _ _ hm => hm.tableSound trivial) (fun _ _ h => h) (fun _ _ h => h) hT h hs, fun href => ?_⟩
  exact (step_keeps (P := fun s => s.TableSound ∧ s.ReferencesSound)
    (fun _ _ hm hk => ⟨hm.tableSound trivial hk.1, hm.referencesSound trivial hk.1 hk.2⟩) (fun _ _ h => h) (fun _ _ h => h) hT h
    ⟨hs, href⟩).2
end

section
/-! SUPPORT. The search unit's conditions and what a record's state says of its fields: every step keeps them (O57). -/

namespace Sys2Proof.Machine

variable {T : Prop} {s t : State}

/-! ## Who may stand in the search unit -/

theorem searchSound_of_kept (hp : t.priorityLane = s.priorityLane) (ho : t.ordinaryLane = s.ordinaryLane)
    (hsl : t.slots = s.slots) (hsub : s.cancelling ⊆ t.cancelling) (h : s.SearchSound) : t.SearchSound := by
  obtain ⟨h4, hnd, hc, hlanes⟩ := h
  have hse := searching_congr hp ho hsl
  unfold State.SearchSound
  rw [hse, hp, ho, hsl]
  exact ⟨h4, hnd, fun j hj => hsub (hc hj), hlanes⟩

theorem searchCore_of_kept (hp : t.priorityLane = s.priorityLane) (ho : t.ordinaryLane = s.ordinaryLane)
    (hsl : t.slots = s.slots) (hsub : s.cancelling ⊆ t.cancelling) (h : s.SearchCore) : t.SearchCore := by
  have hse := searching_congr hp ho hsl
  exact ⟨hsl ▸ h.slots, hse ▸ h.once, fun j hj => hsub (h.cancelling (hse ▸ hj))⟩

theorem PoolStep.cancelling (h : PoolStep s t) : t.cancelling = s.cancelling := by
  have : t.records.map (fun r => (r.identity, r.state)) = s.records.map (fun r => (r.identity, r.state)) :=
    forall2_map_eq _ (fun r q hq => by rw [poolChange_identity hq, poolChange_state hq]) h.records
  have view (u : State) : u.cancelling = ((u.records.map fun r => (r.identity, r.state)).filter fun x => cancels x.2).map
      (·.1) := by
    simp [State.cancelling, List.filter_map, Function.comp_def]
  rw [view, view, this]

theorem PoolStep.searchSound (h : PoolStep s t) (hs : s.SearchSound) : t.SearchSound :=
  searchSound_of_kept h.priorityLane h.ordinaryLane h.slots (by rw [h.cancelling]; exact List.Subset.refl _) hs

theorem PoolStep.searchCore (h : PoolStep s t) (hs : s.SearchCore) : t.SearchCore :=
  searchCore_of_kept h.priorityLane h.ordinaryLane h.slots (by rw [h.cancelling]; exact List.Subset.refl _) hs

/-- An update that keeps the records it names cancelling. -/
theorem cancelling_update {id : Identity} {f : Record → Record} (hi : ∀ r, (f r).identity = r.identity)
    (hf : ∀ r ∈ s.records, r.identity = id → cancels r.state = true → cancels (f r).state = true) :
    s.cancelling ⊆ (s.update id f).cancelling := by
  intro j hj
  obtain ⟨r, hr, hc, rfl⟩ := mem_cancelling.1 hj
  by_cases h : r.identity = id
  · exact mem_cancelling.2 ⟨f r, List.mem_map.2 ⟨r, hr, by simp [h]⟩, hf r hr h hc, hi r⟩
  · exact mem_cancelling.2 ⟨r, List.mem_map.2 ⟨r, hr, by simp [h]⟩, hc, rfl⟩

/-- An update leaves the other records where they may stand. -/
theorem cancelling_update_other {id j : Identity} {f : Record → Record} (hne : j ≠ id) (hj : j ∈ s.cancelling) :
    j ∈ (s.update id f).cancelling := by
  obtain ⟨r, hr, hc, rfl⟩ := mem_cancelling.1 hj
  exact mem_cancelling.2 ⟨r, List.mem_map.2 ⟨r, hr, by simp [hne]⟩, hc, rfl⟩

theorem settleState_cancels (before : List Nat) {r : Record} (h : cancels r.state = true) :
    cancels (settleState before r).state = true := by
  unfold settleState
  split
  · rfl
  · exact h

theorem freeSlot_searchCore (id : Identity) (h : s.SearchCore) : (s.freeSlot id).SearchCore := by
  have hsub : (s.freeSlot id).searching.Sublist s.searching := by
    simp only [State.searching, State.freeSlot]
    exact ((List.filter_sublist.map _).append (List.Sublist.refl _)).append (List.Sublist.refl _)
  exact ⟨(List.length_filter_le _ _).trans h.slots, h.once.sublist hsub, fun j hj => h.cancelling (hsub.subset hj)⟩

/-! ## The search unit through the moves -/

theorem changeProfile_searchSound (hs : s.SearchSound) (r : Record) (number : ProfileNumber) :
    (s.changeProfile r number).SearchSound := by
  by_cases h : number = r.profile
  · simpa [State.changeProfile, h] using hs
  · rw [changeProfile_eq s r h]
    refine (trim_poolStep _ _ _).searchSound (searchSound_of_kept (s := s) rfl rfl rfl ?_ hs)
    exact cancelling_update (s := (s.loseReference r.profile).gainReference number) (fun _ => rfl) fun _ _ _ h => h

/-- The search unit keeps its conditions where a record leaves it and the rest of the table changes no state. -/
theorem leave_searchSound {u : State} {id : Identity} (hs : s.SearchSound) (hp : u.priorityLane = s.priorityLane)
    (ho : u.ordinaryLane = s.ordinaryLane) (hsl : u.slots = s.slots)
    (hsub : ∀ j ∈ s.cancelling, j ≠ id → j ∈ u.cancelling) : (u.cancelSearch id).SearchSound := by
  have hse := searching_congr hp ho hsl
  exact cancelSearch_searchSound (hsl ▸ hs.1) (hse ▸ hs.2.1) fun j hj hne => hsub j (hs.2.2.1 (hse ▸ hj)) hne

theorem attach_searchSound (hs : s.TableSound) (hse : s.SearchSound) {pos : Position} (htaken : s.isTaken pos = false)
    (r : Record) : ((s.retireAt pos).enter r).SearchSound := by
  have hlanes : ((s.retireAt pos).enter r).priorityLane = s.priorityLane ∧
      ((s.retireAt pos).enter r).ordinaryLane = s.ordinaryLane ∧ ((s.retireAt pos).enter r).slots = s.slots := by
    unfold State.enter State.retireAt
    split <;> exact ⟨rfl, rfl, rfl⟩
  refine searchSound_of_kept hlanes.1 hlanes.2.1 hlanes.2.2 (fun j hj => ?_) hse
  obtain ⟨q, hq, hc, rfl⟩ := mem_cancelling.1 hj
  refine mem_cancelling.2 ⟨q, ?_, hc, rfl⟩
  rw [attach_records]
  refine List.mem_append_left _ (List.mem_filter.2 ⟨hq, ?_⟩)
  have hp : q.position ≠ pos := by
    intro hp
    rw [not_isTaken hs htaken hq hp] at hc
    simp [cancels] at hc
  simpa using hp

theorem detach_searchSound (hs : s.SearchSound) (r : Record) : (s.detachRecord r).SearchSound := by
  have hP := releaseAll_poolStep s r.identity
  refine leave_searchSound (u := State.loseReference { s.releaseAll r.identity with
    records := (s.releaseAll r.identity).records.filter (·.identity != r.identity) } r.profile) hs hP.priorityLane
    hP.ordinaryLane hP.slots fun j hj hne => ?_
  rw [← hP.cancelling] at hj
  obtain ⟨q, hq, hc, rfl⟩ := mem_cancelling.1 hj
  exact mem_cancelling.2 ⟨q, List.mem_filter.2 ⟨hq, by simpa using hne⟩, hc, rfl⟩

theorem TableMove.searchSound (h : TableMove T s t) (hT : T) (hs : s.TableSound) (hse : s.SearchSound) :
    t.SearchSound := by
  cases h with
  | records g mild _ tame =>
    refine searchSound_of_kept (s := s) rfl rfl rfl (fun j hj => ?_) hse
    obtain ⟨r, hr, hc, rfl⟩ := mem_cancelling.1 hj
    exact mem_cancelling.2 ⟨g r, List.mem_map.2 ⟨r, hr, rfl⟩, (tame hT r hr).cancels hc, (mild r hr).identity⟩
  | slots g hg =>
    have hids : (s.slots.map g).map (·.identity) = s.slots.map (·.identity) := by
      rw [List.map_map]
      refine List.map_congr_left fun sl hsl => ?_
      rcases hg sl hsl with he | he <;> simp [he]
    obtain ⟨h4, hnd, hc, hlanes⟩ := hse
    have hsearch : State.searching { s with slots := s.slots.map g } = s.searching := by
      simp only [State.searching, hids]
    exact ⟨by simpa using h4, hsearch ▸ hnd, hsearch ▸ hc, by simpa using hlanes⟩
  | request l id hid => exact request_searchSound hse l hid
  | claim id f o hf hr =>
    refine (claimProvisional_poolStep _ _ _).searchSound (searchSound_of_kept (s := s) rfl rfl rfl ?_ hse)
    refine cancelling_update hf.identity fun r hmem hi _ => ?_
    obtain ⟨-, -, -, hc, -⟩ := hr hT r ((recordOf_eq_some_iff hs).2 ⟨hmem, hi⟩)
    exact hc
  | changeProfile r number => exact changeProfile_searchSound hse r number
  | leave id f => exact leave_searchSound hse rfl rfl rfl fun j hj hne => cancelling_update_other hne hj
  | retire id f =>
    have hP := releaseAll_poolStep (s.update id f) id
    exact leave_searchSound hse hP.priorityLane hP.ordinaryLane hP.slots fun j hj hne => by
      rw [hP.cancelling]
      exact cancelling_update_other hne hj
  | complete id =>
    exact completeSearch_keeps (P := State.SearchCore) (Q := State.SearchSound) (fun _ _ => PoolStep.searchCore)
      (fun _ id => freeSlot_searchCore id) (fun _ => arbitrate_searchSound)
      (fun u id res => searchCore_of_kept rfl rfl rfl (cancelling_update (fun _ => rfl) fun _ _ _ h => h))
      (fun u id before => searchCore_of_kept rfl rfl rfl
        (cancelling_update (keysKept_settleState _).identity fun _ _ _ h => settleState_cancels before h))
      id (searchCore_of_sound hse) hse
  | timeOut id =>
    unfold State.timeOutSearch
    split
    · split
      · exact arbitrate_searchSound (searchCore_of_kept (s := s.freeSlot id) rfl rfl rfl
          (cancelling_update (s := s.freeSlot id) (f := inconclusiveRecord) (fun _ => rfl) fun _ _ _ h => h)
          (freeSlot_searchCore id (searchCore_of_sound hse)))
      · exact hse
    · exact hse
  | attach id pos number mode _ htaken => exact attach_searchSound hs hse htaken _
  | detach r => exact detach_searchSound hse r

theorem searchSound_empty (hr : s.slots = []) (hp : s.priorityLane = []) (ho : s.ordinaryLane = []) : s.SearchSound := by
  simp [State.SearchSound, State.searching, hr, hp, ho]

theorem Move.searchSound (h : Move T s t) (hT : T) (hs : s.TableSound) (hse : s.SearchSound) : t.SearchSound := by
  cases h with
  | table h => exact h.searchSound hT hs hse
  | aside | tallies | highways | beginStore | commitStore | tearStore | setProfile | setRule => exact hse
  | loadWorking h =>
    obtain ⟨c, e, he, -⟩ := loadWorking_shape s
    rw [he]
    exact hse
  | reset address rate =>
    obtain ⟨c, e, he, -⟩ := resetPart_shape s address rate
    rw [he]
    exact searchSound_empty rfl rfl rfl
  | restart => exact searchSound_empty rfl rfl rfl

/-! ## What a record's state says of its fields -/

/-- A record may take windows and unplaced offsets in any state but TRANSPARENT and LAPSED (R4, R6). -/
theorem stateSound_of_poolChange {r q : Record} (h : r.PoolChange q)
    (hst : r.state = .transparent ∨ r.state = .lapsed → q.held = [] ∧ q.unplaced = []) (hs : r.StateSound) :
    q.StateSound := by
  have hres : q.resume = r.resume := by rw [h]
  rw [stateSound_iff, hres, poolChange_state h]
  exact ⟨(stateSound_iff.1 hs).1, hst⟩

theorem not_idle_of_cancels {st : RecordState} (h : cancels st = true) : ¬(st = .transparent ∨ st = .lapsed) := by
  rcases cancels_iff.1 h with h | h <;> simp [h]

theorem granted_stateSound {r : Record} (h : r.StateSound) (k : Nat) : (r.granted k).StateSound := by
  refine stateSound_of_poolChange (granted_poolChange r k) (fun hst => ?_) h
  obtain ⟨hh, hu⟩ := (stateSound_iff.1 h).2 hst
  rw [granted_of_unplaced_nil hu]
  exact ⟨hh, hu⟩

theorem emptied_stateSound {r : Record} (h : r.StateSound) : r.emptied.StateSound :=
  stateSound_of_poolChange rfl (fun _ => ⟨rfl, rfl⟩) h

/-- A condition on each record, through an update. -/
theorem forall_update {R : Record → Prop} {id : Identity} {f : Record → Record} (h : ∀ r ∈ s.records, R r)
    (hf : ∀ r ∈ s.records, r.identity = id → R (f r)) : ∀ q ∈ (s.update id f).records, R q := by
  intro q hq
  obtain ⟨r, hr, rfl⟩ := mem_update hq
  split
  · exact hf r hr ‹_›
  · exact h r hr

theorem grantAll_statesSound (hs : s.TableSound) (h : s.StatesSound) : s.grantAll.StatesSound := by
  intro q hq
  obtain ⟨r, hr, k, rfl⟩ := forall2_exists_left (grantAll_granted hs) hq
  exact granted_stateSound (h r hr) k

/-- A condition on each record that only its windows and unplaced offsets could break is kept by a release of windows. -/
theorem returnWindows_records (s : State) (id : Identity) :
    (s.returnWindows id).records = (s.update id Record.emptied).records := by
  rcases h : s.recordOf id with _ | r
  · rw [update_eq_self fun r hr hi => absurd hi (recordOf_none h r hr)]
    simp [State.returnWindows, h]
  · simp only [State.returnWindows, h]
    rfl

theorem returnWindows_statesSound (h : s.StatesSound) (id : Identity) : (s.returnWindows id).StatesSound := by
  intro q hq
  rw [returnWindows_records] at hq
  exact forall_update h (fun r hr _ => emptied_stateSound (h r hr)) q hq

theorem releaseAll_statesSound (hs : s.TableSound) (h : s.StatesSound) (id : Identity) :
    (s.releaseAll id).StatesSound :=
  grantAll_statesSound ((returnWindows_poolStep s id).tableSound hs) (returnWindows_statesSound h id)

theorem raiseAlarm_statesSound (h : s.StatesSound) (id : Identity) (k : Alarm) : (s.raiseAlarm id k).StatesSound := by
  unfold State.raiseAlarm
  split
  · split
    · exact h
    · exact forall_update (f := Record.withAlarm k) h fun r hr _ =>
        stateSound_of_poolChange (q := r.withAlarm k) rfl (stateSound_iff.1 (h r hr)).2 (h r hr)
  · exact h

/-- Windows and unplaced offsets for a cancelling record. -/
theorem update_windows_statesSound {id : Identity} {f : Record → Record} (h : s.StatesSound)
    (hf : ∀ r, Record.PoolChange r (f r)) (hc : ∀ r ∈ s.records, r.identity = id → cancels r.state = true) :
    (s.update id f).StatesSound :=
  forall_update h fun r hr hi => stateSound_of_poolChange (hf r)
    (fun hst => absurd hst (not_idle_of_cancels (hc r hr hi))) (h r hr)

theorem waitFor_statesSound {id : Identity} (h : s.StatesSound)
    (hc : ∀ r ∈ s.records, r.identity = id → cancels r.state = true) (offsets : List Nat) :
    (s.waitFor id offsets).StatesSound :=
  raiseAlarm_statesSound (s := { s.update id (fun r => { r with unplaced := offsets }) with waiting := s.waiting ++ [id] })
    (update_windows_statesSound (f := fun r => { r with unplaced := offsets }) h (fun _ => rfl) hc) id .windowShort

theorem claimProvisional_statesSound {id : Identity} (h : s.StatesSound)
    (hc : ∀ r ∈ s.records, r.identity = id → cancels r.state = true) (o : Nat) :
    (s.claimProvisional id o).StatesSound := by
  unfold State.claimProvisional
  split
  · exact waitFor_statesSound h hc [o]
  · exact update_windows_statesSound (f := fun r => { r with held := [zeroWindow o] }) h (fun _ => rfl) hc

/-- A pool operation keeps a record in its state. -/
theorem PoolStep.cancels_of_identity (h : PoolStep s t) {id : Identity}
    (hc : ∀ r ∈ s.records, r.identity = id → cancels r.state = true) :
    ∀ r ∈ t.records, r.identity = id → cancels r.state = true := by
  intro q hq hi
  obtain ⟨r, hr, hpc⟩ := forall2_exists_left h.records hq
  rw [poolChange_state hpc]
  exact hc r hr (by rw [← poolChange_identity hpc, hi])

theorem placed_statesSound {r : Record} (h : s.StatesSound)
    (hc : ∀ q ∈ s.records, q.identity = r.identity → cancels q.state = true) (placement : List Nat) :
    (s.placed r placement).StatesSound := by
  have claimed : (s.claimed r placement).StatesSound :=
    update_windows_statesSound (f := fun q => { q with held := claimedWindows r.held _ })
      (returnWindows_statesSound h r.identity) (fun _ => rfl)
      ((returnWindows_poolStep s r.identity).cancels_of_identity hc)
  unfold State.placed
  split
  · exact claimed
  · exact waitFor_statesSound claimed ((claimed_poolStep s r placement).cancels_of_identity hc) _

theorem settleState_stateSound (before : List Nat) {r : Record} (h : r.StateSound) :
    (settleState before r).StateSound := by
  unfold settleState
  split
  · rename_i hst
    obtain ⟨hres, -⟩ := stateSound_iff.1 h
    exact stateSound_iff.2 ⟨by simp [hres, hst.1], by simp⟩
  · exact h

theorem noteResult_stateSound (res : SearchResult) {r : Record} (h : r.StateSound) : (noteResult res r).StateSound :=
  stateSound_iff.2 (stateSound_iff.1 h)

theorem install_statesSound {r : Record} (hs : s.TableSound) (h : s.StatesSound)
    (hc : ∀ q ∈ s.records, q.identity = r.identity → cancels q.state = true) (placement : List Nat) :
    (s.install r placement).StatesSound := by
  rw [install_eq]
  have hp := placed_statesSound h hc placement
  refine grantAll_statesSound ?_ (forall_update hp fun q hq _ => settleState_stateSound _ (hp q hq))
  exact (update_rowsKept _ _ (keysKept_settleState _)).tableSound ((placed_poolStep s r placement).tableSound hs)

theorem judgeSearch_statesSound {r : Record} (hs : s.TableSound) (h : s.StatesSound) (hr : r ∈ s.records)
    (hc : cancels r.state = true) (sl : Slot) : (s.judgeSearch r sl).StatesSound := by
  have noted (res : SearchResult) : (s.update r.identity (noteResult res)).StatesSound :=
    forall_update h fun q hq _ => noteResult_stateSound res (h q hq)
  have table (res : SearchResult) : (s.update r.identity (noteResult res)).TableSound :=
    (update_rowsKept s _ (keysKept_noteResult res)).tableSound hs
  unfold State.judgeSearch
  split
  · refine install_statesSound (table _) (noted _) (fun q hq hi => ?_) _
    obtain ⟨x, hx, rfl⟩ := mem_update hq
    split at hi
    · rename_i hxi
      rw [if_pos hxi, eq_of_identity_eq hs hx hr hxi]
      exact hc
    · rename_i hxi
      exact absurd hi hxi
  · exact releaseAll_statesSound (table _) (noted _) _

/-- The record of an occupied slot is cancelling (R95). -/
theorem cancels_of_slot (hs : s.TableSound) (hse : s.SearchSound) {r : Record} {sl : Slot}
    (hr : r ∈ s.records) (hsl : sl ∈ s.slots) (hi : sl.identity = r.identity) : cancels r.state = true := by
  have hmem : r.identity ∈ s.searching := mem_searching.2 (.inl ⟨sl, hsl, hi⟩)
  obtain ⟨q, hq, hc, hqi⟩ := mem_cancelling.1 (hse.2.2.1 hmem)
  rwa [← eq_of_identity_eq hs hq hr hqi]

theorem find_slot {id : Identity} {sl : Slot} (h : s.slots.find? (·.identity == id) = some sl) :
    sl ∈ s.slots ∧ sl.identity = id :=
  ⟨List.mem_of_find?_eq_some h, by simpa using List.find?_some h⟩

theorem completeSearch_statesSound (hs : s.TableSound) (hse : s.SearchSound) (h : s.StatesSound) (id : Identity) :
    (s.completeSearch id).StatesSound := by
  unfold State.completeSearch
  split
  · rename_i r sl hr hsl
    split
    · obtain ⟨hrm, hri⟩ := recordOf_some hr
      obtain ⟨hslm, hsli⟩ := find_slot hsl
      have := judgeSearch_statesSound (s := s.freeSlot id) hs h hrm (cancels_of_slot hs hse hrm hslm (hsli.trans hri.symm)) sl
      unfold State.StatesSound
      rwa [arbitrate_records]
    · exact h
  · exact h

theorem trimRecord_stateSound (limit : Nat) {r : Record} (h : r.StateSound) : (trimRecord limit r).StateSound := by
  refine stateSound_of_poolChange rfl (fun hst => ?_) h
  obtain ⟨hh, hu⟩ := (stateSound_iff.1 h).2 hst
  simp [trimRecord, hh, hu]

/-- The trim without its grants (R19). -/
def State.trimmed (s : State) (r : Record) (limit : Nat) : State :=
  if (trimRecord limit r).unplaced = [] then (s.update r.identity (trimRecord limit)).stopWaiting r.identity
  else s.update r.identity (trimRecord limit)

theorem trim_eq (s : State) (r : Record) (limit : Nat) : s.trim r limit =
    if r.held.length - limit = 0 then s.trimmed r limit
    else State.grantAll { s.trimmed r limit with free := (s.trimmed r limit).free + (r.held.length - limit) } := rfl

theorem trimmed_records (s : State) (r : Record) (limit : Nat) :
    (s.trimmed r limit).records = (s.update r.identity (trimRecord limit)).records := by
  unfold State.trimmed
  split <;> rfl

theorem trim_statesSound (hs : s.TableSound) (h : s.StatesSound) (r : Record) (limit : Nat) :
    (s.trim r limit).StatesSound := by
  have hu := forall_update (id := r.identity) h fun q hq _ => trimRecord_stateSound limit (h q hq)
  rw [← trimmed_records] at hu
  have htable : (s.trimmed r limit).TableSound := by
    unfold State.TableSound
    rw [trimmed_records]
    exact (PoolStep.update s r.identity (f := trimRecord limit) (fun _ => rfl) s.free s.waiting s.summary).tableSound hs
  rw [trim_eq]
  split
  · exact hu
  · exact grantAll_statesSound (s := { s.trimmed r limit with free := _ }) htable hu

theorem changeProfile_statesSound (hs : s.TableSound) (h : s.StatesSound) (r : Record) (number : ProfileNumber) :
    (s.changeProfile r number).StatesSound := by
  by_cases hn : number = r.profile
  · simpa [State.changeProfile, hn] using h
  · rw [changeProfile_eq s r hn]
    refine trim_statesSound ?_ ?_ r _
    · exact (reprofiled_rowsKept s r.identity _ number).tableSound hs
    · exact forall_update (s := (s.loseReference r.profile).gainReference number) h fun q hq _ =>
        stateSound_iff.2 (stateSound_iff.1 (h q hq))

theorem newRecord_stateSound (id : Identity) (pos : Position) (n : ProfileNumber) (p : Profile) (mode : Mode) :
    (newRecord id pos n p mode).StateSound :=
  have hstate : (newRecord id pos n p mode).state = mode.startState := rfl
  stateSound_iff.2 ⟨by
    rw [hstate, show (newRecord id pos n p mode).resume = none from rfl]
    cases mode <;> simp [Mode.startState], fun _ => ⟨rfl, rfl⟩⟩

theorem TableMove.statesSound (h : TableMove T s t) (hT : T) (hs : s.TableSound) (hse : s.SearchSound)
    (hst : s.StatesSound) : t.StatesSound := by
  have named {id : Identity} {r : Record} (hr : r ∈ s.records) (hi : r.identity = id) : s.recordOf id = some r :=
    (recordOf_eq_some_iff hs).2 ⟨hr, hi⟩
  cases h with
  | records g _ _ tame =>
    intro q hq
    obtain ⟨r, hr, rfl⟩ := List.mem_map.1 hq
    exact (tame hT r hr).fields.state (hst r hr)
  | slots => exact hst
  | request l id =>
    unfold State.StatesSound
    rwa [request_records]
  | claim id f o hf hr =>
    refine claimProvisional_statesSound (forall_update hst fun r hmem hi => ?_) (fun q hq hi => ?_) o
    · obtain ⟨-, -, hk, -⟩ := hr hT r (named hmem hi)
      exact hk.state (hst r hmem)
    · obtain ⟨r, hmem, rfl⟩ := mem_update hq
      split at hi
      · rename_i hri
        obtain ⟨-, -, -, hc, -⟩ := hr hT r (named hmem hri)
        rwa [if_pos hri]
      · rename_i hri
        exact absurd hi hri
  | changeProfile r number => exact changeProfile_statesSound hs hst r number
  | leave id f hf hr =>
    unfold State.StatesSound
    rw [cancelSearch_records]
    exact forall_update hst fun r hmem hi => (hr hT r (named hmem hi)).2.state (hst r hmem)
  | retire id f hf hr =>
    unfold State.StatesSound
    rw [cancelSearch_records]
    have htable := (update_rowsKept s id hf).tableSound hs
    refine grantAll_statesSound ((returnWindows_poolStep _ id).tableSound htable) ?_
    intro q hq
    rw [returnWindows_records, update_update s id _ hf.identity] at hq
    exact forall_update hst (fun r hmem hi => (hr hT r (named hmem hi)).2.state (hst r hmem)) q hq
  | complete id => exact completeSearch_statesSound hs hse hst id
  | timeOut id =>
    unfold State.timeOutSearch
    split
    · split
      · unfold State.StatesSound
        rw [arbitrate_records]
        exact forall_update (s := s.freeSlot id) (f := inconclusiveRecord) hst fun r hr _ =>
          stateSound_iff.2 (stateSound_iff.1 (hst r hr))
      · exact hst
    · exact hst
  | attach =>
    intro q hq
    rw [attach_records] at hq
    rcases List.mem_append.1 hq with hq | hq
    · exact hst q (List.mem_filter.1 hq).1
    · rw [List.mem_singleton.1 hq]
      exact newRecord_stateSound _ _ _ _ _
  | detach r =>
    intro q hq
    rw [detach_records] at hq
    exact releaseAll_statesSound hs hst r.identity q (List.mem_filter.1 hq).1

theorem Move.statesSound (h : Move T s t) (hT : T) (hs : s.TableSound) (hse : s.SearchSound) (hst : s.StatesSound) :
    t.StatesSound := by
  cases h with
  | table h => exact h.statesSound hT hs hse hst
  | aside | tallies | highways | beginStore | commitStore | tearStore | setProfile | setRule => exact hst
  | loadWorking h =>
    obtain ⟨c, e, he, -⟩ := loadWorking_shape s
    rw [he]
    exact hst
  | reset address rate =>
    obtain ⟨c, e, he, -⟩ := resetPart_shape s address rate
    rw [he]
    simp [State.StatesSound, State.reset]
  | restart => simp [State.StatesSound]

theorem accumulateSearches_searchSound (xin : List Sample) (h : s.SearchSound) :
    (s.accumulateSearches xin).SearchSound := by
  have hids : (s.accumulateSearches xin).slots.map (·.identity) = s.slots.map (·.identity) := by
    simp only [State.accumulateSearches, List.map_map]
    refine List.map_congr_left fun sl _ => ?_
    simp only [Function.comp]
    split
    · unfold accumulateSlot
      split <;> rfl
    · rfl
  have hsearch : (s.accumulateSearches xin).searching = s.searching := by
    simp only [State.searching, hids]
    rfl
  obtain ⟨h4, hnd, hc, hlanes⟩ := h
  have hlen : (s.accumulateSearches xin).slots.length = s.slots.length := by simpa using congrArg List.length hids
  exact ⟨hlen ▸ h4, hsearch ▸ hnd, hsearch ▸ hc, hlen ▸ hlanes⟩

end Sys2Proof.Machine

open Sys2Proof Sys2Proof.Machine

/-- Settles O57: every move keeps both, given the other and the table's conditions. -/
theorem stepKeepsSearchUnit : Obligations.StepKeepsSearchUnit := by
  intro s t h hs hse hst
  exact (step_keeps (P := fun s => s.TableSound ∧ s.SearchSound ∧ s.StatesSound)
    (fun _ _ hm ⟨h1, h2, h3⟩ => ⟨hm.tableSound trivial h1, hm.searchSound trivial h1 h2, hm.statesSound trivial h1 h2 h3⟩)
    (fun _ xin ⟨h1, h2, h3⟩ => ⟨h1, accumulateSearches_searchSound xin h2, h3⟩) (fun _ _ h => h) (fun _ : True => hs) h ⟨hs, hse, hst⟩).2
end

section
/-! SUPPORT. The counts and the levels of the records: conditions that read nothing of the pool. Every step keeps the
counts (O60). -/

namespace Sys2Proof.Machine

variable {T : Prop} {s t : State} {C : Profile → Record → Prop}

/-! ## Conditions that read nothing of the pool -/

/-- A condition on a record under its profile that reads neither its windows, its unplaced offsets nor its alarms, that
holds of a new record, and that every change of fields and of the profile keeps. -/
structure FieldCondition (C : Profile → Record → Prop) : Prop where
  pool : ∀ {p r q}, Record.PoolChange r q → (C p r ↔ C p q)
  fields : ∀ {p r q}, p.InRange → Record.FieldsKept p r q → C p r → C p q
  reprofiled : ∀ {p p' r} n, p'.InRange → C p r → C p' (reprofiled p' n r)
  created : ∀ {p} id pos n mode, p.InRange → C p (newRecord id pos n p mode)

/-- A condition holds of every record under the profile it names. -/
abbrev State.Holds (s : State) (C : Profile → Record → Prop) : Prop := ∀ r ∈ s.records, C (s.profileOf r) r

theorem holds_congr (hr : t.records = s.records) (hse : t.settings = s.settings) (h : s.Holds C) : t.Holds C := by
  intro r hmem
  rw [profileOf_congr hse]
  exact h r (hr ▸ hmem)

theorem holds_of_records_nil (h : s.records = []) : s.Holds C := fun _ hr => absurd hr (h ▸ List.not_mem_nil)

theorem PoolStep.holds (hC : FieldCondition C) (h : PoolStep s t) (hs : s.Holds C) : t.Holds C := by
  intro q hq
  obtain ⟨r, hr, hp⟩ := forall2_exists_left h.records hq
  rw [sameApart_profileOf h.apart, State.profileOf, poolChange_profile hp]
  exact (hC.pool hp).1 (hs r hr)

theorem update_holds {id : Identity} {f : Record → Record} (hf : ∀ r, (f r).profile = r.profile)
    (hstep : ∀ r ∈ s.records, r.identity = id → C (s.profileOf r) r → C (s.profileOf r) (f r)) (hs : s.Holds C) :
    (s.update id f).Holds C :=
  forall_update (R := fun q => C (s.profileOf q) q) hs fun r hr hi => by
    rw [State.profileOf, hf]
    exact hstep r hr hi (hs r hr)

theorem fieldsKept_settleState (p : Profile) (before : List Nat) (r : Record) : r.FieldsKept p (settleState before r) := by
  unfold settleState
  split
  · rename_i h
    exact fieldsKept_settle (by simp [h.1, cancels]) ⟨rfl, rfl, rfl, rfl⟩ ⟨rfl, rfl, rfl, rfl, rfl, rfl⟩ ⟨rfl, rfl, rfl, rfl⟩
  · exact .of_untouched rfl

theorem changeProfile_holds (hC : FieldCondition C) (hp : s.settings.InRange) (hs : s.Holds C) (r : Record)
    (number : ProfileNumber) : (s.changeProfile r number).Holds C := by
  by_cases h : number = r.profile
  · simpa [State.changeProfile, h] using hs
  · rw [changeProfile_eq s r h]
    refine (trim_poolStep _ _ _).holds hC (forall_update (s := (s.loseReference r.profile).gainReference number)
      (R := fun q => C (s.profileOf q) q) hs fun q hq _ => ?_)
    exact hC.reprofiled number (hp number) (hs q hq)

theorem completeSearch_holds (hC : FieldCondition C) (hp : s.settings.InRange) (hs : s.Holds C) (id : Identity) :
    (s.completeSearch id).Holds C := by
  have range (u v : State) (h : v.settings = u.settings) (hu : u.settings.InRange) : v.settings.InRange := h ▸ hu
  refine (completeSearch_keeps (P := fun u => u.settings.InRange ∧ u.Holds C) (Q := fun u => u.settings.InRange ∧ u.Holds C)
    ?_ ?_ ?_ ?_ ?_ id ⟨hp, hs⟩ ⟨hp, hs⟩).2
  · exact fun u v h hu => ⟨range u v (sameApart_settings h.apart) hu.1, h.holds hC hu.2⟩
  · exact fun u id hu => hu
  · exact fun u hu => ⟨range u _ (arbitrate_settings u) hu.1, holds_congr (arbitrate_records u) (arbitrate_settings u) hu.2⟩
  · exact fun u id res hu => ⟨hu.1, update_holds (fun _ => rfl) (fun r _ _ => hC.fields (hu.1 _) (.of_untouched rfl)) hu.2⟩
  · exact fun u id before hu => ⟨hu.1, update_holds (keysKept_settleState before).profile
      (fun r _ _ => hC.fields (hu.1 _) (fieldsKept_settleState _ before r)) hu.2⟩

theorem timeOutSearch_holds (hC : FieldCondition C) (hp : s.settings.InRange) (hs : s.Holds C) (id : Identity) :
    (s.timeOutSearch id).Holds C := by
  have note : (s.update id inconclusiveRecord).Holds C :=
    update_holds (fun _ => rfl) (fun r _ _ => hC.fields (hp _) (.of_untouched rfl)) hs
  unfold State.timeOutSearch
  split
  · split
    · exact holds_congr (arbitrate_records _) (arbitrate_settings _) note
    · exact hs
  · exact hs

theorem detach_settings (s : State) (r : Record) :
    (s.detachRecord r).settings = (s.releaseAll r.identity).settings := by
  simp only [State.detachRecord, cancelSearch_settings]
  rfl

/-- Every move of the table keeps a condition on the fields. -/
theorem TableMove.holds (h : TableMove T s t) (hT : T) (hC : FieldCondition C) (hs : s.TableSound)
    (hp : s.settings.InRange) (hh : s.Holds C) : t.Holds C := by
  have named {id : Identity} {r : Record} (hr : r ∈ s.records) (hi : r.identity = id) : s.recordOf id = some r :=
    (recordOf_eq_some_iff hs).2 ⟨hr, hi⟩
  cases h with
  | records g _ _ tame =>
    intro q hq
    obtain ⟨r, hr, rfl⟩ := List.mem_map.1 hq
    have ht := tame hT r hr
    change C (s.profileOf (g r)) (g r)
    rw [State.profileOf, ht.profile]
    exact hC.fields (hp _) ht.fields (hh r hr)
  | slots => exact hh
  | request l id => exact holds_congr (request_records s l id) (request_settings s l id) hh
  | claim id f o hf hr =>
    refine (claimProvisional_poolStep _ _ _).holds hC (update_holds hf.profile (fun r hmem hi => ?_) hh)
    obtain ⟨-, -, hk, -⟩ := hr hT r (named hmem hi)
    exact hC.fields (hp _) hk
  | changeProfile r number => exact changeProfile_holds hC hp hh r number
  | leave id f hf hr =>
    refine holds_congr (cancelSearch_records _ _) (cancelSearch_settings _ _) (update_holds hf.profile ?_ hh)
    exact fun r hmem hi => hC.fields (hp _) (hr hT r (named hmem hi)).2
  | retire id f hf hr =>
    refine holds_congr (cancelSearch_records _ _) (cancelSearch_settings _ _)
      ((releaseAll_poolStep _ _).holds hC (update_holds hf.profile (fun r hmem hi hr' => ?_) hh))
    exact (hC.pool (q := (f r).emptied) rfl).2 (hC.fields (hp _) (hr hT r (named hmem hi)).2 hr')
  | complete id => exact completeSearch_holds hC hp hh id
  | timeOut id => exact timeOutSearch_holds hC hp hh id
  | attach id pos number mode =>
    intro q hq
    rw [attach_records] at hq
    rw [profileOf_congr (enter_settings s pos _)]
    rcases List.mem_append.1 hq with hq | hq
    · exact hh q (List.mem_filter.1 hq).1
    · rw [List.mem_singleton.1 hq]
      exact hC.created id pos number mode (hp number)
  | detach r =>
    intro q hq
    rw [detach_records] at hq
    rw [profileOf_congr (detach_settings s r)]
    exact (releaseAll_poolStep s r.identity).holds hC hh q (List.mem_filter.1 hq).1

/-- A profile that no record names by its reference count is none that a record names (R163). -/
theorem not_named (href : s.ReferencesSound) {n : ProfileNumber} (hn : s.refCounts.get n = 0) {r : Record}
    (hr : r ∈ s.records) : r.profile ≠ n := by
  have hcount := href n
  rw [hn, eq_comm, List.countP_eq_zero] at hcount
  simpa using hcount r hr

theorem setProfile_profileOf {n : ProfileNumber} {p : Profile} {r : Record} (h : r.profile ≠ n) :
    (s.setProfile n p).profileOf r = s.profileOf r := by
  have hne : n.val ≠ r.profile.val := fun he => h (Fin.ext he.symm)
  simp [State.profileOf, State.setProfile, Vector.get_eq_getElem, hne]

/-- Every move keeps a condition on the fields, where the profile that PROFILE_WRITE replaces is none that the condition
is read under. -/
theorem Move.holds (h : Move T s t) (hT : T) (hC : FieldCondition C) (hs : s.TableSound) (hp : s.settings.InRange)
    (hset : s.ReferencesSound ∨ ∀ p p' r, C p r → C p' r) (hh : s.Holds C) : t.Holds C := by
  cases h with
  | table h => exact h.holds hT hC hs hp hh
  | aside | tallies | highways | beginStore | commitStore | tearStore | setRule => exact hh
  | loadWorking h =>
    obtain ⟨c, e, he, -⟩ := loadWorking_shape s
    rw [he]
    exact holds_of_records_nil h
  | setProfile n p hn =>
    intro r hr
    have hr' : r ∈ s.records := hr
    rcases hset with href | hany
    · rw [setProfile_profileOf (not_named href hn hr')]
      exact hh r hr'
    · exact hany _ _ r (hh r hr')
  | reset address rate =>
    obtain ⟨c, e, he, -⟩ := resetPart_shape s address rate
    rw [he]
    exact holds_of_records_nil rfl
  | restart => exact holds_of_records_nil rfl

/-! ## The counts -/

/-- A record's counts in range, with what its state says of its resume state. -/
def Record.Counting (_ : Profile) (r : Record) : Prop := r.ResumeSound ∧ r.CountsSound

theorem noiseSeed_ne_zero (id : Identity) : noiseSeed id ≠ 0 := by
  unfold noiseSeed
  split
  · decide
  · assumption

theorem counting_fieldCondition : FieldCondition Record.Counting where
  pool h := by
    rw [h]
    exact and_congr Iff.rfl (countsSound_iff.trans countsSound_iff.symm)
  fields hp hk h := ⟨hk.resume h.1, hk.counts hp h.1 h.2⟩
  reprofiled _ _ h := ⟨h.1, countsSound_iff.2 (countsSound_iff.1 h.2)⟩
  created id pos n mode _ := by
    refine ⟨(stateSound_iff.1 (newRecord_stateSound id pos n _ mode)).1, countsSound_iff.2 ?_⟩
    exact ⟨Nat.zero_le _, Nat.succ_pos _, Nat.zero_le _, Nat.succ_pos _, fun _ => ⟨Nat.succ_pos _, rfl⟩,
      fun _ => Nat.succ_pos _, fun _ => ⟨rfl, rfl, rfl, rfl⟩, Nat.zero_le _, fun _ => Nat.succ_pos _, Nat.zero_le _,
      Nat.zero_le _, noiseSeed_ne_zero id⟩

end Sys2Proof.Machine

open Sys2Proof Sys2Proof.Machine

/-- Settles O60: every move keeps the counts with the resume states, which is all they need of what a record's state says
of its fields. -/
theorem stepKeepsCounts : Obligations.StepKeepsCounts := by
  intro s t h hset hs hst hc
  have hstart : s.Holds Record.Counting := fun r hr => ⟨(stateSound_iff.1 (hst r hr)).1, hc r hr⟩
  obtain ⟨-, -, hend⟩ := step_keeps (P := fun s => s.SettingsSound ∧ s.TableSound ∧ s.Holds Record.Counting)
    (fun _ _ hm ⟨h1, h2, h3⟩ => ⟨hm.settingsSound h1, hm.tableSound trivial h2,
      hm.holds trivial counting_fieldCondition h2 h1.1 (.inr fun _ _ _ hr => hr) h3⟩)
    (fun _ _ h => h) (fun _ _ h => h) (fun _ : True => hs) h ⟨hset, hs, hstart⟩
  exact fun r hr => (hend r hr).2
end

section
/-! SUPPORT. The models of the records, their levels and the search slots: every step keeps them (O59). -/

namespace Sys2Proof.Machine

variable {T : Prop} {s t : State}

/-! ## The levels -/

theorem levels_fieldCondition : FieldCondition Record.LevelsSound where
  pool h := by
    rw [h]
    exact levelsSound_iff.trans levelsSound_iff.symm
  fields hp hk h := hk.levels hp h
  reprofiled {p p' r} n hp h := by
    obtain ⟨-, -, hi, ho⟩ := levelsSound_iff.1 h
    have hg := inRange_gmin_le_gmax hp
    exact levelsSound_iff.2 ⟨clampNat_bounds hg _, clampNat_bounds hg _, hi, ho⟩
  created {p} id pos n mode hp := by
    have hg := inRange_gmin_le_gmax hp
    exact levelsSound_iff.2 ⟨clampNat_bounds hg _, clampNat_bounds hg _, (fun _ h => nomatch h), fun _ h => nomatch h⟩

/-! ## Windows and unplaced offsets under a limit -/

/-- The windows of a record and its unplaced offsets under a window limit: what `Record.ModelSound` says of them. -/
structure WindowsSound (limit : Nat) (held : List Window) (unplaced : List Nat) : Prop where
  windows : heldSound held
  count : held.length + unplaced.length ≤ limit
  disjoint : (held.map (·.offset) ++ unplaced).Pairwise fun a b => windowsOverlap a b = false
  span : ∀ o ∈ unplaced, o ≤ 960

theorem modelSound_iff_windows {p : Profile} {r : Record} :
    r.ModelSound p ↔ WindowsSound p.windowLimit r.held r.unplaced ∧ r.history.length = 1024 := by
  rw [modelSound_iff]
  exact ⟨fun ⟨h1, h2, h3, h4, h5⟩ => ⟨⟨h1, h2, h3, h4⟩, h5⟩, fun ⟨⟨h1, h2, h3, h4⟩, h5⟩ => ⟨h1, h2, h3, h4, h5⟩⟩

theorem windowsSound_nil (limit : Nat) : WindowsSound limit [] [] where
  windows := ⟨by simp, by simp, List.Pairwise.nil⟩
  count := by simp
  disjoint := by simp
  span := by simp

theorem windowsOverlap_comm (a b : Nat) : windowsOverlap a b = windowsOverlap b a := Bool.and_comm _ _

theorem windowsOverlap_eq_false_iff {a b : Nat} : windowsOverlap a b = false ↔ a + 63 < b ∨ b + 63 < a := by
  simp only [windowsOverlap, Bool.and_eq_false_iff, decide_eq_false_iff_not]
  omega

theorem insertWindow_perm (w : Window) (held : List Window) : (insertWindow w held).Perm (w :: held) := by
  induction held with
  | nil => exact .refl _
  | cons v vs ih =>
    unfold insertWindow
    split
    · exact .refl _
    · exact (ih.cons v).trans (.swap w v vs)

/-- Windows apart from one another stay apart and in order when one that is apart from all takes its place. -/
theorem insertWindow_apart {w : Window} {held : List Window} (h : held.Pairwise fun a b => a.offset + 63 < b.offset)
    (hw : ∀ v ∈ held, windowsOverlap v.offset w.offset = false) :
    (insertWindow w held).Pairwise fun a b => a.offset + 63 < b.offset := by
  induction held with
  | nil => simp [insertWindow]
  | cons v vs ih =>
    rw [List.pairwise_cons] at h
    obtain ⟨hv, hvs⟩ := h
    have hwv := windowsOverlap_eq_false_iff.1 (hw v List.mem_cons_self)
    unfold insertWindow
    split
    · rw [List.pairwise_cons]
      refine ⟨fun x hx => ?_, List.pairwise_cons.2 ⟨hv, hvs⟩⟩
      rcases List.mem_cons.1 hx with rfl | hx
      · omega
      · have := hv x hx
        omega
    · rw [List.pairwise_cons]
      refine ⟨fun x hx => ?_, ih hvs fun x hx => hw x (List.mem_cons_of_mem _ hx)⟩
      rcases List.mem_cons.1 ((insertWindow_perm w vs).mem_iff.1 hx) with rfl | hx
      · omega
      · exact hv x hx

/-- An unplaced offset becomes a window (R4, R124). -/
theorem WindowsSound.place {limit : Nat} (h3 : limit ≤ 3) {held : List Window} {o : Nat} {more : List Nat} {w : Window}
    (h : WindowsSound limit held (o :: more)) (ho : w.offset = o) (hc : w.coefficients.length = 64) :
    WindowsSound limit (insertWindow w held) more := by
  have hperm := insertWindow_perm w held
  have hlen : (insertWindow w held).length = held.length + 1 := by simpa using hperm.length_eq
  have hcount := h.count
  rw [List.length_cons] at hcount
  obtain ⟨-, hwin, happ⟩ := h.windows
  refine ⟨⟨by omega, fun v hv => ?_, insertWindow_apart happ fun v hv => ?_⟩, by omega, ?_,
    fun x hx => h.span x (List.mem_cons_of_mem _ hx)⟩
  · rcases List.mem_cons.1 (hperm.mem_iff.1 hv) with rfl | hv
    · exact ⟨ho ▸ h.span o List.mem_cons_self, hc⟩
    · exact hwin v hv
  · rw [ho]
    exact (List.pairwise_append.1 h.disjoint).2.2 _ (List.mem_map_of_mem hv) _ List.mem_cons_self
  · have hp : (held.map (·.offset) ++ o :: more).Perm ((insertWindow w held).map (·.offset) ++ more) := by
      have := (hperm.map (·.offset)).append_right more
      rw [List.map_cons, ho, List.cons_append] at this
      exact List.perm_middle.trans this.symm
    exact (hp.pairwise_iff fun {a b} hab => (windowsOverlap_comm b a).trans hab).1 h.disjoint

/-- The strongest k unplaced offsets become windows, one after another. -/
theorem WindowsSound.placeAll {limit : Nat} (h3 : limit ≤ 3) {g : Nat → Window} {held : List Window} {unplaced : List Nat}
    (h : WindowsSound limit held unplaced) (hg : ∀ o, (g o).offset = o ∧ (g o).coefficients.length = 64) (k : Nat) :
    WindowsSound limit ((unplaced.take k).foldl (fun held o => insertWindow (g o) held) held) (unplaced.drop k) := by
  induction unplaced generalizing held k with
  | nil => simpa using h
  | cons o more ih =>
    cases k with
    | zero => exact h
    | succ k => exact ih (h.place h3 (hg o).1 (hg o).2) k

/-- The trim to a limit (R19). -/
theorem WindowsSound.trim {limit : Nat} (limit' : Nat) {held : List Window} {unplaced : List Nat}
    (h : WindowsSound limit held unplaced) :
    WindowsSound limit' (held.take limit') (unplaced.take (limit' - held.length)) := by
  obtain ⟨h3, hwin, happ⟩ := h.windows
  have hsub : (held.take limit').Sublist held := List.take_sublist _ _
  have hsub' : (unplaced.take (limit' - held.length)).Sublist unplaced := List.take_sublist _ _
  refine ⟨⟨hsub.length_le.trans h3, fun w hw => hwin w (hsub.subset hw), happ.sublist hsub⟩, ?_,
    h.disjoint.sublist ((hsub.map _).append hsub'), fun o ho => h.span o (hsub'.subset ho)⟩
  rw [List.length_take, List.length_take]
  omega

theorem Record.SameModel.windowsSound {limit : Nat} {r q : Record} (h : r.SameModel q)
    (hw : WindowsSound limit r.held r.unplaced) : WindowsSound limit q.held q.unplaced := by
  have hlen : q.held.length = r.held.length := by simpa using congrArg List.length h.windows
  have hoff : q.held.map (·.offset) = r.held.map (·.offset) := by
    simpa [Function.comp_def] using congrArg (List.map Prod.fst) h.windows
  obtain ⟨h3, hwin, happ⟩ := hw.windows
  refine ⟨⟨hlen ▸ h3, fun w hmem => ?_, ?_⟩, by rw [hlen, h.unplaced]; exact hw.count, ?_, h.unplaced ▸ hw.span⟩
  · have : (w.offset, w.coefficients.length) ∈ r.held.map (fun w => (w.offset, w.coefficients.length)) := by
      rw [← h.windows]
      exact List.mem_map_of_mem hmem
    obtain ⟨v, hv, he⟩ := List.mem_map.1 this
    obtain ⟨ho, hc⟩ := Prod.mk.inj he
    exact ⟨ho ▸ (hwin v hv).1, hc ▸ (hwin v hv).2⟩
  · rw [← List.pairwise_map (f := fun w : Window => w.offset) (R := fun a b => a + 63 < b)] at happ ⊢
    rwa [hoff]
  · rw [hoff, h.unplaced]
    exact hw.disjoint

/-! ## The placement of a search -/

theorem lowestOverlapped_le {placed : List Nat} (h : ∀ o ∈ placed, o ≤ 960) {start w : Nat}
    (hw : lowestOverlapped placed start = some w) : w ≤ 960 :=
  h w (List.mem_filter.1 (List.min?_mem hw)).1

theorem candidateStart_le {placed : List Nat} (h : ∀ o ∈ placed, o ≤ 960) (peak : Nat) :
    candidateStart placed peak ≤ 960 := by
  unfold candidateStart
  dsimp only
  split
  · omega
  · rename_i w hw
    have := lowestOverlapped_le h hw
    split
    · omega
    · split <;> omega

/-- The offsets of a placement so far: apart from one another and within the span. -/
def PlacedSound (placed : List Nat) : Prop :=
  placed.Pairwise (fun a b => windowsOverlap a b = false) ∧ ∀ o ∈ placed, o ≤ 960

theorem placeCandidate_sound {placed : List Nat} (h : PlacedSound placed) (peak : Nat) :
    PlacedSound (placeCandidate placed peak) ∧ (placeCandidate placed peak).length ≤ placed.length + 1 := by
  unfold placeCandidate
  dsimp only
  split
  · exact ⟨h, Nat.le_succ _⟩
  · split
    · exact ⟨h, Nat.le_succ _⟩
    · rename_i hno
      have hapart : ∀ o ∈ placed, windowsOverlap o (candidateStart placed peak) = false := by
        simpa [overlapsListed] using hno
      refine ⟨⟨List.pairwise_append.2 ⟨h.1, List.pairwise_singleton _ _, by simpa using hapart⟩, fun o ho => ?_⟩, by simp⟩
      rcases List.mem_append.1 ho with ho | ho
      · exact h.2 o ho
      · rw [List.mem_singleton.1 ho]
        exact candidateStart_le h.2 peak

theorem placementOf_sound (limit : Nat) (peaks : List Nat) :
    PlacedSound (placementOf limit peaks) ∧ (placementOf limit peaks).length ≤ limit := by
  refine List.foldlRecOn peaks _ (motive := fun placed => PlacedSound placed ∧ placed.length ≤ limit)
    ⟨⟨List.Pairwise.nil, by simp⟩, Nat.zero_le _⟩ ?_
  rintro placed ⟨hs, hl⟩ peak -
  split
  · exact ⟨hs, hl⟩
  · have := placeCandidate_sound hs peak
    exact ⟨this.1, by omega⟩

theorem windowsSound_placement (limit : Nat) (correlation : List Int) :
    WindowsSound limit [] (searchPlacement limit correlation) := by
  unfold searchPlacement
  obtain ⟨⟨hd, hs⟩, hl⟩ := placementOf_sound limit ((candidatesOf correlation).map (·.peak))
  generalize placementOf limit ((candidatesOf correlation).map (·.peak)) = placement at hd hs hl
  exact ⟨⟨by simp, by simp, List.Pairwise.nil⟩, by simpa using hl, by simpa using hd, hs⟩

theorem claimedWindow_sound {returned : List Window} (h : ∀ w ∈ returned, w.coefficients.length = 64) (o : Nat) :
    (claimedWindow returned o).offset = o ∧ (claimedWindow returned o).coefficients.length = 64 := by
  unfold claimedWindow
  split
  · rename_i w hw
    exact ⟨by simpa using List.find?_some hw, h w (List.mem_of_find?_eq_some hw)⟩
  · exact ⟨rfl, List.length_replicate⟩

/-! ## The models through the pool's operations -/

/-- A record's model under its profile, as a condition on records. -/
abbrev State.ModelsSound (s : State) : Prop := s.Holds fun p r => r.ModelSound p

theorem modelSound_of_pool {p : Profile} {r q : Record} (hq : r.PoolChange q)
    (hw : WindowsSound p.windowLimit q.held q.unplaced) (h : r.history.length = 1024) : q.ModelSound p := by
  refine modelSound_iff_windows.2 ⟨hw, ?_⟩
  rw [hq]
  exact h

theorem granted_modelSound {p : Profile} (hp : p.InRange) {r : Record} (h : r.ModelSound p) (k : Nat) :
    (r.granted k).ModelSound p := by
  obtain ⟨hw, hx⟩ := modelSound_iff_windows.1 h
  exact modelSound_of_pool (granted_poolChange r k) (hw.placeAll (g := zeroWindow) (inRange_windowLimit hp)
    (fun _ => ⟨rfl, List.length_replicate⟩) k) hx

theorem grantAll_models (hs : s.TableSound) (hp : s.settings.InRange) (h : s.ModelsSound) : s.grantAll.ModelsSound := by
  intro q hq
  obtain ⟨r, hr, k, rfl⟩ := forall2_exists_left (grantAll_granted hs) hq
  rw [sameApart_profileOf (grantAll_poolStep s).apart]
  exact granted_modelSound (hp _) (h r hr) k

theorem emptied_modelSound {p : Profile} {r : Record} (h : r.history.length = 1024) : r.emptied.ModelSound p :=
  modelSound_of_pool rfl (windowsSound_nil _) h

theorem returnWindows_models (h : s.ModelsSound) (id : Identity) : (s.returnWindows id).ModelsSound := by
  refine holds_congr (s := s.update id Record.emptied) (returnWindows_records s id)
    (sameApart_settings (returnWindows_poolStep s id).apart) (update_holds (fun _ => rfl) (fun r _ _ hr => ?_) h)
  exact emptied_modelSound (modelSound_iff_windows.1 hr).2

theorem releaseAll_models (hs : s.TableSound) (hp : s.settings.InRange) (h : s.ModelsSound) (id : Identity) :
    (s.releaseAll id).ModelsSound := by
  have hP := returnWindows_poolStep s id
  exact grantAll_models (hP.tableSound hs) (sameApart_settings hP.apart ▸ hp) (returnWindows_models h id)

theorem raiseAlarm_models (h : s.ModelsSound) (id : Identity) (k : Alarm) : (s.raiseAlarm id k).ModelsSound := by
  unfold State.raiseAlarm
  split
  · split
    · exact h
    · exact update_holds (f := Record.withAlarm k) (fun _ => rfl)
        (fun r _ _ hr => modelSound_of_pool (q := r.withAlarm k) rfl (modelSound_iff_windows.1 hr).1
          (modelSound_iff_windows.1 hr).2) h
  · exact h

theorem WindowsSound.unplaced_nil {limit : Nat} {held : List Window} {unplaced : List Nat}
    (h : WindowsSound limit held unplaced) : WindowsSound limit held [] where
  windows := h.windows
  count := (Nat.le_add_right _ _).trans h.count
  disjoint := by simpa using (List.pairwise_append.1 h.disjoint).1
  span := by simp

theorem waitFor_models {id : Identity} {offsets : List Nat} (h : s.ModelsSound)
    (hid : ∀ q ∈ s.records, q.identity = id → WindowsSound (s.profileOf q).windowLimit q.held offsets) :
    (s.waitFor id offsets).ModelsSound :=
  raiseAlarm_models (s := { s.update id (fun r => { r with unplaced := offsets }) with waiting := s.waiting ++ [id] })
    (update_holds (f := fun r => { r with unplaced := offsets }) (fun _ => rfl)
      (fun r hr hi hm => modelSound_of_pool (q := { r with unplaced := offsets }) rfl (hid r hr hi)
        (modelSound_iff_windows.1 hm).2) h) id .windowShort

/-- The provisional claim of a record that has no window (R120). -/
theorem claimProvisional_models {id : Identity} {o : Nat} (hp : s.settings.InRange) (h : s.ModelsSound)
    (hid : ∀ q ∈ s.records, q.identity = id →
      q.held = [] ∧ q.unplaced = [] ∧ 1 ≤ (s.profileOf q).windowLimit ∧ o = (s.profileOf q).provisionalOffset) :
    (s.claimProvisional id o).ModelsSound := by
  have single (q : Record) (hq : q ∈ s.records) (hi : q.identity = id) :
      q.held = [] ∧ q.unplaced = [] ∧ WindowsSound (s.profileOf q).windowLimit [] [o] := by
    obtain ⟨hh, hu, h1, ho⟩ := hid q hq hi
    have hspan : o ≤ 960 := ho ▸ inRange_provisionalOffset (hp q.profile)
    exact ⟨hh, hu, ⟨by simp, by simp, List.Pairwise.nil⟩, by simpa using h1, by simp, by simpa using hspan⟩
  unfold State.claimProvisional
  split
  · refine waitFor_models h fun q hq hi => ?_
    obtain ⟨hh, -, hw⟩ := single q hq hi
    rwa [hh]
  · refine update_holds (f := fun r => { r with held := [zeroWindow o] }) (fun _ => rfl) (fun r hr hi hm => ?_) h
    obtain ⟨-, hu, hw⟩ := single r hr hi
    have hplaced := hw.place (inRange_windowLimit (hp r.profile)) (w := zeroWindow o) rfl List.length_replicate
    exact modelSound_of_pool (q := { r with held := [zeroWindow o] }) rfl (hu ▸ hplaced) (modelSound_iff_windows.1 hm).2

/-- The windows of a placement that are claimed, and those that stay unplaced, under the limit (R121). -/
theorem claimedWindows_sound {limit : Nat} (h3 : limit ≤ 3) {returned : List Window} {placement : List Nat}
    (h : WindowsSound limit [] placement) (hret : ∀ w ∈ returned, w.coefficients.length = 64) (k : Nat) :
    WindowsSound limit (claimedWindows returned (placement.take k)) (placement.drop k) :=
  h.placeAll h3 (claimedWindow_sound hret) k

theorem placed_models {r : Record} {placement : List Nat} (hp : s.settings.InRange) (h : s.ModelsSound)
    (hr : ∀ q ∈ s.records, q.identity = r.identity → q.profile = r.profile)
    (hheld : ∀ w ∈ r.held, w.coefficients.length = 64)
    (hplace : WindowsSound (s.profileOf r).windowLimit [] placement) : (s.placed r placement).ModelsSound := by
  have hret := returnWindows_poolStep s r.identity
  have hw := claimedWindows_sound (inRange_windowLimit (hp r.profile)) hplace hheld (s.returnWindows r.identity).free
  have limit (u : State) (hu : PoolStep s u) (q : Record) (hq : q ∈ u.records) (hi : q.identity = r.identity) :
      u.profileOf q = s.profileOf r := by
    obtain ⟨x, hx, hpc⟩ := forall2_exists_left hu.records hq
    rw [sameApart_profileOf hu.apart, State.profileOf, poolChange_profile hpc,
      hr x hx ((poolChange_identity hpc).symm.trans hi)]
    rfl
  have empty (q : Record) (hq : q ∈ (s.returnWindows r.identity).records) (hi : q.identity = r.identity) :
      q.unplaced = [] := by
    rw [returnWindows_records] at hq
    obtain ⟨x, -, rfl⟩ := mem_update hq
    split
    · rfl
    · rename_i hx
      rw [if_neg hx] at hi
      exact absurd hi hx
  have claimed : (s.claimed r placement).ModelsSound := by
    refine update_holds (f := fun q => { q with held := claimedWindows r.held _ }) (fun _ => rfl)
      (fun q hq hi hm => modelSound_of_pool (q := { q with held := claimedWindows r.held _ }) rfl ?_
        (modelSound_iff_windows.1 hm).2) (returnWindows_models h r.identity)
    rw [limit _ hret q hq hi, empty q hq hi]
    exact hw.unplaced_nil
  unfold State.placed
  split
  · exact claimed
  · refine waitFor_models claimed fun q hq hi => ?_
    rw [limit _ (claimed_poolStep s r placement) q hq hi]
    obtain ⟨x, -, rfl⟩ := mem_update hq
    split
    · exact hw
    · rename_i hx
      rw [if_neg hx] at hi
      exact absurd hi hx

/-- A change of records that keeps the profile and the model keeps the models sound. -/
theorem sameModel_modelSound {p : Profile} {r q : Record} (h : r.SameModel q) (hr : r.ModelSound p) : q.ModelSound p := by
  obtain ⟨hw, hx⟩ := modelSound_iff_windows.1 hr
  exact modelSound_iff_windows.2 ⟨h.windowsSound hw, h.history hx⟩

theorem settleState_sameModel (before : List Nat) (r : Record) : r.SameModel (settleState before r) := by
  unfold settleState
  split <;> exact .of_eq rfl rfl rfl

theorem update_models {id : Identity} {f : Record → Record} (hf : ∀ r, (f r).profile = r.profile)
    (hm : ∀ r, Record.SameModel r (f r)) (h : s.ModelsSound) : (s.update id f).ModelsSound :=
  update_holds hf (fun r _ _ hr => sameModel_modelSound (hm r) hr) h

theorem install_models {r : Record} {placement : List Nat} (hs : s.TableSound) (hp : s.settings.InRange)
    (h : s.ModelsSound) (hr : ∀ q ∈ s.records, q.identity = r.identity → q.profile = r.profile)
    (hheld : ∀ w ∈ r.held, w.coefficients.length = 64)
    (hplace : WindowsSound (s.profileOf r).windowLimit [] placement) : (s.install r placement).ModelsSound := by
  rw [install_eq]
  have hplaced := placed_poolStep s r placement
  refine grantAll_models ?_ (sameApart_settings hplaced.apart ▸ hp)
    (update_models (keysKept_settleState _).profile (settleState_sameModel _) (placed_models hp h hr hheld hplace))
  exact (update_rowsKept _ _ (keysKept_settleState _)).tableSound (hplaced.tableSound hs)

theorem judgeSearch_models {r : Record} (hs : s.TableSound) (hp : s.settings.InRange) (h : s.ModelsSound)
    (hr : r ∈ s.records) (sl : Slot) : (s.judgeSearch r sl).ModelsSound := by
  have noted (res : SearchResult) : (s.update r.identity (noteResult res)).ModelsSound :=
    update_models (fun _ => rfl) (fun _ => .of_eq rfl rfl rfl) h
  have table (res : SearchResult) : (s.update r.identity (noteResult res)).TableSound :=
    (update_rowsKept s _ (keysKept_noteResult res)).tableSound hs
  unfold State.judgeSearch
  split
  · obtain ⟨hw, -⟩ := modelSound_iff_windows.1 (h r hr)
    refine install_models (table _) hp (noted _) (fun q hq hi => ?_) (fun w hmem => (hw.windows.2.1 w hmem).2)
      (windowsSound_placement _ _)
    obtain ⟨x, hx, rfl⟩ := mem_update hq
    split at hi
    · rename_i hxi
      rw [if_pos hxi, eq_of_identity_eq hs hx hr hxi]
      rfl
    · rename_i hxi
      exact absurd hi hxi
  · exact releaseAll_models (table _) hp (noted _) _

theorem completeSearch_models (hs : s.TableSound) (hp : s.settings.InRange) (h : s.ModelsSound) (id : Identity) :
    (s.completeSearch id).ModelsSound := by
  unfold State.completeSearch
  split
  · rename_i r sl hr _
    split
    · exact holds_congr (arbitrate_records _) (arbitrate_settings _)
        (judgeSearch_models (s := s.freeSlot id) hs hp h (recordOf_some hr).1 sl)
    · exact h
  · exact h

theorem trimmed_poolStep (s : State) (r : Record) (limit : Nat) : PoolStep s (s.trimmed r limit) := by
  have h1 : PoolStep s (s.update r.identity (trimRecord limit)) :=
    PoolStep.update s r.identity (f := trimRecord limit) (fun _ => rfl) s.free s.waiting s.summary
  unfold State.trimmed
  split
  · exact h1.trans (PoolStep.counts _ _ _)
  · exact h1

/-- The new profile and the trim to its limit, before the grants (R19). -/
theorem trimmed_models (h : s.ModelsSound) (r : Record) (number : ProfileNumber) :
    (State.trimmed (((s.loseReference r.profile).gainReference number).update r.identity
      (reprofiled (s.settings.profiles.get number) number)) r (s.settings.profiles.get number).windowLimit).ModelsSound := by
  intro q hq
  rw [sameApart_profileOf (trimmed_poolStep _ _ _).apart]
  rw [trimmed_records, update_update _ _ (f := reprofiled _ number) _ (fun _ => rfl)] at hq
  refine forall_update (s := s) (R := fun q => q.ModelSound (s.profileOf q)) h (fun x hx _ => ?_) q hq
  obtain ⟨hw, hh⟩ := modelSound_iff_windows.1 (h x hx)
  exact modelSound_iff_windows.2 ⟨hw.trim (s.settings.profiles.get number).windowLimit, hh⟩

/-- A profile change, with the trim to the new limit and the grants of the windows it releases (R19). -/
theorem changeProfile_models (hs : s.TableSound) (hp : s.settings.InRange) (h : s.ModelsSound) (r : Record)
    (number : ProfileNumber) : (s.changeProfile r number).ModelsSound := by
  by_cases hn : number = r.profile
  · simpa [State.changeProfile, hn] using h
  · rw [changeProfile_eq s r hn, trim_eq]
    have htable := (reprofiled_rowsKept ((s.loseReference r.profile).gainReference number) r.identity
      (s.settings.profiles.get number) number).tableSound hs
    have hstep := trimmed_poolStep (((s.loseReference r.profile).gainReference number).update r.identity
      (reprofiled (s.settings.profiles.get number) number)) r (s.settings.profiles.get number).windowLimit
    have htrimmed := trimmed_models h r number
    have hrange : Settings.InRange (State.settings (State.trimmed _ _ _)) := sameApart_settings hstep.apart ▸ hp
    split
    · exact htrimmed
    · exact grantAll_models (s := { State.trimmed _ _ _ with free := _ }) (hstep.tableSound htable) hrange htrimmed

/-! ## The models through the moves -/

/-- Every move of the table keeps the models sound. -/
theorem TableMove.models (h : TableMove T s t) (hT : T) (hs : s.TableSound) (hp : s.settings.InRange)
    (hst : s.StatesSound) (hm : s.ModelsSound) : t.ModelsSound := by
  have named {id : Identity} {r : Record} (hr : r ∈ s.records) (hi : r.identity = id) : s.recordOf id = some r :=
    (recordOf_eq_some_iff hs).2 ⟨hr, hi⟩
  cases h with
  | records g _ _ tame =>
    intro q hq
    obtain ⟨r, hr, rfl⟩ := List.mem_map.1 hq
    have ht := tame hT r hr
    change (g r).ModelSound (s.profileOf (g r))
    rw [State.profileOf, ht.profile]
    exact sameModel_modelSound ht.model (hm r hr)
  | slots => exact hm
  | request l id => exact holds_congr (request_records s l id) (request_settings s l id) hm
  | claim id f o hf hr =>
    refine claimProvisional_models hp (update_holds hf.profile (fun r hmem hi hr' => ?_) hm) fun q hq hi => ?_
    · obtain ⟨-, hsame, -⟩ := hr hT r (named hmem hi)
      exact sameModel_modelSound hsame hr'
    · obtain ⟨r, hmem, rfl⟩ := mem_update hq
      by_cases hri : r.identity = id
      · obtain ⟨hempty, hsame, -, -, h1, ho⟩ := hr hT r (named hmem hri)
        obtain ⟨hh, hu⟩ := hempty (hst r hmem)
        have hwin : (f r).held.map (fun w => (w.offset, w.coefficients.length)) = [] := by rw [hsame.windows, hh]; rfl
        rw [if_pos hri, State.profileOf, hf.profile]
        exact ⟨List.map_eq_nil_iff.1 hwin, hsame.unplaced.trans hu, h1, ho⟩
      · rw [if_neg hri] at hi
        exact absurd hi hri
  | changeProfile r number => exact changeProfile_models hs hp hm r number
  | leave id f hf hr =>
    refine holds_congr (cancelSearch_records _ _) (cancelSearch_settings _ _) (update_holds hf.profile ?_ hm)
    exact fun r hmem hi => sameModel_modelSound (hr hT r (named hmem hi)).1
  | retire id f hf hr =>
    refine holds_congr (cancelSearch_records _ _) (cancelSearch_settings _ _)
      (releaseAll_models ((update_rowsKept s id hf).tableSound hs) hp (update_holds hf.profile ?_ hm) id)
    exact fun r hmem hi => sameModel_modelSound (hr hT r (named hmem hi)).1
  | complete id => exact completeSearch_models hs hp hm id
  | timeOut id =>
    have note : (s.update id inconclusiveRecord).ModelsSound :=
      update_models (fun _ => rfl) (fun _ => .of_eq rfl rfl rfl) hm
    unfold State.timeOutSearch
    split
    · split
      · exact holds_congr (arbitrate_records _) (arbitrate_settings _) note
      · exact hm
    · exact hm
  | attach id pos number mode =>
    intro q hq
    rw [attach_records] at hq
    rw [profileOf_congr (enter_settings s pos _)]
    rcases List.mem_append.1 hq with hq | hq
    · exact hm q (List.mem_filter.1 hq).1
    · rw [List.mem_singleton.1 hq]
      exact modelSound_iff_windows.2 ⟨windowsSound_nil _, List.length_replicate⟩
  | detach r =>
    intro q hq
    rw [detach_records] at hq
    rw [profileOf_congr (detach_settings s r)]
    exact releaseAll_models hs hp hm r.identity q (List.mem_filter.1 hq).1

theorem Move.models (h : Move T s t) (hT : T) (hs : s.TableSound) (hp : s.settings.InRange) (href : s.ReferencesSound)
    (hst : s.StatesSound) (hm : s.ModelsSound) : t.ModelsSound := by
  cases h with
  | table h => exact h.models hT hs hp hst hm
  | aside | tallies | highways | beginStore | commitStore | tearStore | setRule => exact hm
  | loadWorking h =>
    obtain ⟨c, e, he, -⟩ := loadWorking_shape s
    rw [he]
    exact holds_of_records_nil h
  | setProfile n p hn =>
    intro r hr
    have hr' : r ∈ s.records := hr
    rw [setProfile_profileOf (not_named href hn hr')]
    exact hm r hr'
  | reset address rate =>
    obtain ⟨c, e, he, -⟩ := resetPart_shape s address rate
    rw [he]
    exact holds_of_records_nil rfl
  | restart => exact holds_of_records_nil rfl

/-! ## The slots -/

/-- The slots of a state are slots of another, or fresh. -/
def SlotsFrom (s t : State) : Prop := ∀ sl ∈ t.slots, sl ∈ s.slots ∨ sl = freshSlot sl.identity

theorem SlotsFrom.of_eq (h : t.slots = s.slots) : SlotsFrom s t := fun _ hsl => .inl (h ▸ hsl)

theorem freshSlot_sound (id : Identity) : (freshSlot id).Sound :=
  slotSound_iff.2 ⟨List.length_replicate, Nat.succ_pos _, Nat.succ_pos _⟩

theorem arbitrate_slotsFrom {u : State} (h : SlotsFrom s u) : SlotsFrom s u.arbitrate := by
  intro sl hsl
  obtain ⟨ids, he⟩ := arbitrate_slots u
  rw [he] at hsl
  rcases List.mem_append.1 hsl with hsl | hsl
  · exact h sl hsl
  · obtain ⟨id, -, rfl⟩ := List.mem_map.1 hsl
    exact .inr rfl

theorem filter_slotsFrom {u : State} {p : Slot → Bool} (h : u.slots = s.slots.filter p) : SlotsFrom s u :=
  fun _ hsl => .inl (List.mem_filter.1 (h ▸ hsl)).1

theorem request_slotsFrom (s : State) (l : Lane) (id : Identity) : SlotsFrom s (s.request l id) := by
  unfold State.request
  split
  · exact arbitrate_slotsFrom (.of_eq rfl)
  · exact arbitrate_slotsFrom (.of_eq rfl)
  · exact arbitrate_slotsFrom (.of_eq rfl)
  · exact .of_eq rfl

theorem cancelSearch_slotsFrom {u : State} (h : u.slots = s.slots) (id : Identity) : SlotsFrom s (u.cancelSearch id) :=
  arbitrate_slotsFrom (filter_slotsFrom (p := (·.identity != id)) (by rw [← h]; rfl))

theorem judgeSearch_slots (s : State) (r : Record) (sl : Slot) : (s.judgeSearch r sl).slots = s.slots := by
  unfold State.judgeSearch
  split
  · rw [install_eq, (grantAll_poolStep _).slots, State.update_slots, (placed_poolStep _ _ _).slots, State.update_slots]
  · rw [(releaseAll_poolStep _ _).slots, State.update_slots]

theorem find_slot_unique (hse : s.SearchSound) {id : Identity} {x sl : Slot}
    (hx : s.slots.find? (·.identity == id) = some x) (hsl : sl ∈ s.slots) (hi : sl.identity = id) : sl = x := by
  obtain ⟨hxm, hxi⟩ := find_slot hx
  have hnd : (s.slots.map (·.identity)).Nodup := (List.nodup_append.1 (List.nodup_append.1 hse.2.1).1).1
  exact List.inj_on_of_nodup_map hnd hsl hxm (hi.trans hxi.symm)

theorem not_mem_of_find_slot {id : Identity} (h : s.slots.find? (·.identity == id) = none) {sl : Slot}
    (hsl : sl ∈ s.slots) : sl.identity ≠ id := by
  simpa using List.find?_eq_none.1 h sl hsl

/-- After a completion a slot is one from before, and not one of the record whose search was done, or fresh (R103). -/
theorem completeSearch_slots (hse : s.SearchSound) {id : Identity} {r : Record} (hr : s.recordOf id = some r) {sl : Slot}
    (hsl : sl ∈ (s.completeSearch id).slots) :
    (sl ∈ s.slots ∧ (sl.identity = id → searchDone sl = false)) ∨ sl = freshSlot sl.identity := by
  unfold State.completeSearch at hsl
  rw [hr] at hsl
  split at hsl
  · rename_i q x _ hx
    split at hsl
    · have hfrom : SlotsFrom (s.freeSlot id) (((s.freeSlot id).judgeSearch q x).arbitrate) :=
        arbitrate_slotsFrom (.of_eq (judgeSearch_slots _ _ _))
      rcases hfrom sl hsl with hmem | hfresh
      · obtain ⟨hmem, hne⟩ := List.mem_filter.1 hmem
        exact .inl ⟨hmem, fun hi => by simp [hi] at hne⟩
      · exact .inr hfresh
    · rename_i hnot
      exact .inl ⟨hsl, fun hi => by rw [find_slot_unique hse hx hsl hi]; simpa using hnot⟩
  · rename_i hnone
    refine .inl ⟨hsl, fun hi => absurd hi (not_mem_of_find_slot ?_ hsl)⟩
    cases hx : s.slots.find? (·.identity == id) with
    | none => rfl
    | some x => exact absurd hx (hnone r x rfl)

/-- After a time-out likewise (R110). -/
theorem timeOutSearch_slots (hse : s.SearchSound) {id : Identity} {sl : Slot} (hsl : sl ∈ (s.timeOutSearch id).slots) :
    (sl ∈ s.slots ∧ (sl.identity = id → searchExpired sl = false)) ∨ sl = freshSlot sl.identity := by
  unfold State.timeOutSearch at hsl
  split at hsl
  · rename_i x hx
    split at hsl
    · rcases arbitrate_slotsFrom (s := s.freeSlot id) (.of_eq (by rfl)) sl hsl with hmem | hfresh
      · obtain ⟨hmem, hne⟩ := List.mem_filter.1 hmem
        exact .inl ⟨hmem, fun hi => by simp [hi] at hne⟩
      · exact .inr hfresh
    · rename_i hnot
      exact .inl ⟨hsl, fun hi => by rw [find_slot_unique hse hx hsl hi]; simpa using hnot⟩
  · rename_i hx
    exact .inl ⟨hsl, fun hi => absurd hi (not_mem_of_find_slot hx hsl)⟩

theorem completeSearch_slotsFrom (s : State) (id : Identity) : SlotsFrom s (s.completeSearch id) := by
  unfold State.completeSearch
  split
  · split
    · exact arbitrate_slotsFrom (filter_slotsFrom (p := (·.identity != id)) (judgeSearch_slots _ _ _))
    · exact .of_eq rfl
  · exact .of_eq rfl

theorem timeOutSearch_slotsFrom (s : State) (id : Identity) : SlotsFrom s (s.timeOutSearch id) := by
  unfold State.timeOutSearch
  split
  · split
    · exact arbitrate_slotsFrom (filter_slotsFrom (p := (·.identity != id)) rfl)
    · exact .of_eq rfl
  · exact .of_eq rfl

/-- Every move of the table leaves the slots as they were, frees some, and makes fresh ones. -/
theorem TableMove.slotsFrom (h : TableMove T s t) : SlotsFrom s t := by
  cases h with
  | records => exact .of_eq rfl
  | slots g hg =>
    intro sl hsl
    obtain ⟨x, hx, rfl⟩ := List.mem_map.1 hsl
    rcases hg x hx with he | he
    · exact .inl (he.symm ▸ hx)
    · rw [he]
      exact .inr rfl
  | request l id => exact request_slotsFrom s l id
  | claim id f o => exact .of_eq (claimProvisional_poolStep _ _ _).slots
  | changeProfile r number =>
    by_cases hn : number = r.profile
    · exact .of_eq (by simp [State.changeProfile, hn])
    · rw [changeProfile_eq s r hn]
      exact .of_eq (trim_poolStep _ _ _).slots
  | leave id f => exact cancelSearch_slotsFrom rfl id
  | retire id f => exact cancelSearch_slotsFrom (releaseAll_poolStep _ _).slots id
  | complete id => exact completeSearch_slotsFrom s id
  | timeOut id => exact timeOutSearch_slotsFrom s id
  | attach =>
    refine .of_eq ?_
    unfold State.enter State.retireAt
    split <;> rfl
  | detach r =>
    exact cancelSearch_slotsFrom (u := State.loseReference { s.releaseAll r.identity with
      records := (s.releaseAll r.identity).records.filter (·.identity != r.identity) } r.profile)
      (releaseAll_poolStep _ _).slots r.identity

theorem Move.slotsSound (h : Move T s t) (hsl : ∀ sl ∈ s.slots, sl.Sound) : ∀ sl ∈ t.slots, sl.Sound := by
  cases h with
  | table h =>
    intro sl hmem
    rcases h.slotsFrom sl hmem with hmem | hfresh
    · exact hsl sl hmem
    · rw [hfresh]
      exact freshSlot_sound _
  | aside | tallies | highways | beginStore | commitStore | tearStore | setProfile | setRule => exact hsl
  | loadWorking =>
    obtain ⟨c, e, he, -⟩ := loadWorking_shape s
    rw [he]
    exact hsl
  | reset address rate =>
    obtain ⟨c, e, he, -⟩ := resetPart_shape s address rate
    rw [he]
    simp [State.reset]
  | restart => simp

/-! ## The searches that end at a frame -/

/-- A slot that is sound but for a search that has still to end, its record being at one of some positions. -/
def SlotPending (s : State) (ps : List Position) (sl : Slot) : Prop :=
  sl.correlation.length = 1024 ∧ (sl.Sound ∨ ∃ r ∈ s.records, r.identity = sl.identity ∧ r.position ∈ ps)

theorem not_done_iff {sl : Slot} : searchDone sl = false ↔ sl.qualifying < 2048 := by simp [searchDone]

theorem not_expired {sl : Slot} (hd : searchDone sl = false) (h : searchExpired sl = false) : sl.elapsed < 16000 := by
  simpa [searchExpired, hd] using h

/-- The searches of the positions end one after another: after its own position no slot is due any more (R103, R108,
R110). -/
theorem endSearches_slots (ps : List Position) (hs : s.TableSound) (hse : s.SearchSound)
    (hsl : ∀ sl ∈ s.slots, SlotPending s ps sl) :
    ∀ sl ∈ (ps.foldl (fun s p =>
      match s.recordAt p with
      | some r => (s.completeSearch r.identity).timeOutSearch r.identity
      | none => s) s).slots, sl.Sound := by
  induction ps generalizing s with
  | nil =>
    intro sl hmem
    rcases (hsl sl hmem).2 with h | ⟨r, -, -, h⟩
    · exact h
    · simp at h
  | cons p ps ih =>
    rw [List.foldl_cons]
    cases hat : s.recordAt p with
    | none =>
      refine ih hs hse fun sl hmem => ?_
      obtain ⟨hlen, h⟩ := hsl sl hmem
      refine ⟨hlen, h.imp_right ?_⟩
      rintro ⟨r, hr, hi, hp⟩
      exact ⟨r, hr, hi, (List.mem_cons.1 hp).resolve_left (recordAt_eq_none_iff.1 hat r hr)⟩
    | some r =>
      obtain ⟨hr, hrp⟩ := recordAt_some hat
      have hrof := (recordOf_eq_some_iff hs).2 ⟨hr, rfl⟩
      have hdone : TableMove True s (s.completeSearch r.identity) := .complete r.identity
      have hs1 := hdone.tableSound trivial hs
      have hse1 := hdone.searchSound trivial hs hse
      have hout : TableMove True _ ((s.completeSearch r.identity).timeOutSearch r.identity) := .timeOut r.identity
      refine ih (hout.tableSound trivial hs1) (hout.searchSound trivial hs1 hse1) fun sl hmem => ?_
      have fresh (h : sl = freshSlot sl.identity) : SlotPending ((s.completeSearch r.identity).timeOutSearch r.identity) ps sl := by
        rw [h]
        exact ⟨List.length_replicate, .inl (freshSlot_sound _)⟩
      rcases timeOutSearch_slots hse1 hmem with ⟨hmem1, hexp⟩ | hfresh
      · rcases completeSearch_slots hse hrof hmem1 with ⟨hmem0, hdue⟩ | hfresh
        · obtain ⟨hlen, h⟩ := hsl sl hmem0
          refine ⟨hlen, ?_⟩
          by_cases hid : sl.identity = r.identity
          · exact .inl (slotSound_iff.2 ⟨hlen, not_done_iff.1 (hdue hid), not_expired (hdue hid) (hexp hid)⟩)
          · refine h.imp_right ?_
            rintro ⟨q, hq, hqi, hqp⟩
            have hne : q.position ≠ p := fun he => hid (by rw [← hqi, eq_of_position_eq hs hq hr (he.trans hrp.symm)])
            obtain ⟨x, hx, hk⟩ := forall2_exists_right
              ((completeSearch_rowsKept s r.identity).trans (timeOutSearch_rowsKept _ r.identity)).records hq
            exact ⟨x, hx, (rowKept_identity _ _ hk).trans hqi, hk.2.symm ▸ (List.mem_cons.1 hqp).resolve_left hne⟩
        · exact fresh hfresh
      · exact fresh hfresh

theorem accumulateSlot_length (sl : Slot) (y : Sample) {history : List Sample} (talk : TalkState)
    (hsl : sl.correlation.length = 1024) (hh : history.length = 1024) :
    (accumulateSlot sl y history talk).correlation.length = 1024 := by
  unfold accumulateSlot
  split <;> simp [hsl, hh]

theorem accumulateSlot_identity (sl : Slot) (y : Sample) (history : List Sample) (talk : TalkState) :
    (accumulateSlot sl y history talk).identity = sl.identity := by
  unfold accumulateSlot
  split <;> rfl

/-- After the accumulation of a frame every slot has its 1024 accumulators, and a record whose position comes (R101). -/
theorem accumulateSearches_slots (hs : s.TableSound) (hse : s.SearchSound) (hm : s.ModelsSound)
    (hsl : ∀ sl ∈ s.slots, sl.Sound) (xin : List Sample) :
    ∀ sl ∈ (s.accumulateSearches xin).slots, SlotPending (s.accumulateSearches xin) allPositions sl := by
  intro sl hmem
  obtain ⟨x, hx, rfl⟩ := List.mem_map.1 hmem
  obtain ⟨r, hr, -, hri⟩ := mem_cancelling.1 (hse.2.2.1 (mem_searching.2 (.inl ⟨x, hx, rfl⟩)))
  obtain ⟨hlen, -⟩ := slotSound_iff.1 (hsl x hx)
  rw [(recordOf_eq_some_iff hs).2 ⟨hr, hri⟩]
  refine ⟨accumulateSlot_length x _ _ hlen (modelSound_iff_windows.1 (hm r hr)).2, .inr ⟨r, hr, ?_, List.mem_finRange _⟩⟩
  rw [accumulateSlot_identity, hri]

/-- What the models need of the rest of the part, and they themselves with the levels. -/
structure State.ModelFrame (s : State) : Prop where
  settings : s.SettingsSound
  table : s.TableSound
  references : s.ReferencesSound
  search : s.SearchSound
  states : s.StatesSound
  models : s.ModelsSound
  levels : s.Holds Record.LevelsSound

theorem Move.modelFrame {s t : State} (hm : Move True s t) (h : s.ModelFrame) : t.ModelFrame where
  settings := hm.settingsSound h.settings
  table := hm.tableSound trivial h.table
  references := hm.referencesSound trivial h.table h.references
  search := hm.searchSound trivial h.table h.search
  states := hm.statesSound trivial h.table h.search h.states
  models := hm.models trivial h.table h.settings.1 h.references h.states h.models
  levels := hm.holds trivial levels_fieldCondition h.table h.settings.1 (.inl h.references) h.levels

end Sys2Proof.Machine

open Sys2Proof Sys2Proof.Machine

/-- Settles O59: the models and levels by the moves; the slots by the moves too, but for a frame, whose accumulation makes
searches due that end within the frame. -/
theorem stepKeepsModels : Obligations.StepKeepsModels := by
  intro s t h hset hs href hse hst hrec hsl
  have hstart : s.ModelFrame := ⟨hset, hs, href, hse, hst, fun r hr => (hrec r hr).1, fun r hr => (hrec r hr).2⟩
  have hend : t.ModelFrame := step_keeps (P := State.ModelFrame) (fun _ _ hm => hm.modelFrame)
    (fun _ xin h => { h with search := accumulateSearches_searchSound xin h.search })
    (fun _ _ h => { h with }) (fun _ : True => hs) h hstart
  refine ⟨fun r hr => ⟨hend.models r hr, hend.levels r hr⟩, ?_⟩
  obtain ⟨rest, u, hmoves, hu⟩ := step_moves (T := True) (fun _ => hs) h
  obtain ⟨hframe, hslots⟩ := hmoves.keep (P := fun u => u.ModelFrame ∧ ∀ sl ∈ u.slots, sl.Sound)
    (fun _ _ hm hP => ⟨hm.modelFrame hP.1, hm.slotsSound hP.2⟩) ⟨{ hstart with }, hsl⟩
  rcases hu with ht | ⟨xin, ht⟩ <;> rw [ht]
  · exact hslots
  · exact endSearches_slots (s := u.accumulateSearches xin) allPositions hframe.table
      (accumulateSearches_searchSound xin hframe.search)
      (accumulateSearches_slots hframe.table hframe.search hframe.models hslots xin)
end

section
/-! SUPPORT. The step, the state after reset, and the grants one at a time (O1, O2, O3, O23). -/

namespace Sys2Proof.Machine

variable {T : Prop} {s t : State}

/-! ## Every command completes -/

/-- No move touches the queue. -/
theorem Move.pending (h : Move T s t) : t.pending = s.pending := by
  cases h with
  | table h => rw [h.apart]
  | aside | tallies | highways | beginStore | commitStore | tearStore | setProfile | setRule | restart => rfl
  | loadWorking =>
    obtain ⟨c, e, he, -⟩ := loadWorking_shape s
    rw [he]
  | reset address rate =>
    obtain ⟨c, e, he, -⟩ := resetPart_shape s address rate
    rw [he]

theorem Moves.pending (h : Moves T s t) : t.pending = s.pending :=
  Moves.keep (P := fun u => u.pending = s.pending) (fun _ _ hm hu => hm.pending.trans hu) h rfl

/-- Every command has a next state. -/
theorem exec_next (i : Instr) (s : State) : ∃ t, exec i s = .next t := by cases i <;> exact ⟨_, rfl⟩

/-- A part that does not run is changed by RESET and POWER_LOSS only: every other row looks at the supply and the reset
pin first. -/
theorem exec_of_not_running {i : Instr} (hrun : s.running = false) (hr : ∀ pin straps, i ≠ .reset pin straps)
    (hp : i ≠ .powerLoss) : exec i s = .next s := by
  cases i with
  | reset pin straps => exact absurd rfl (hr pin straps)
  | powerLoss => exact absurd rfl hp
  | _ =>
    change Host.Outcome.next (if s.running = true then _ else s) = _
    rw [hrun, if_neg Bool.false_ne_true]

/-- Every command keeps the queue. -/
theorem exec_pending {i : Instr} (h : exec i s = .next t) : t.pending = s.pending := by
  by_cases hi : ∃ tin xin, i = .frameSync tin xin
  · obtain ⟨tin, xin, rfl⟩ := hi
    obtain ⟨u, hu, ht⟩ := execFrameSync_moves (T := False) (s := s) False.elim h
    rcases ht with ht | ht <;> rw [ht]
    · exact hu.pending
    · exact (endSearches_moves (T := False) (s := u.accumulateSearches xin) False.elim).pending.trans hu.pending
  · exact (exec_moves (T := False) False.elim h fun tin xin he => hi ⟨tin, xin, he⟩).pending

theorem powerLoss_unpowered (h : s.powered = false) : exec .powerLoss s = .next s := by
  change Host.Outcome.next _ = _
  rw [if_neg (by simp [h])]

/-! ## Grants -/

theorem insertWindow_sorted {w : Window} {held : List Window} (h : held.Pairwise fun a b => a.offset ≤ b.offset) :
    (insertWindow w held).Pairwise fun a b => a.offset ≤ b.offset := by
  induction held with
  | nil => simp [insertWindow]
  | cons v vs ih =>
    rw [List.pairwise_cons] at h
    obtain ⟨hv, hvs⟩ := h
    unfold insertWindow
    split
    · rename_i hle
      rw [List.pairwise_cons]
      refine ⟨fun x hx => ?_, List.pairwise_cons.2 ⟨hv, hvs⟩⟩
      rcases List.mem_cons.1 hx with rfl | hx
      · exact hle
      · exact hle.trans (hv x hx)
    · rename_i hle
      rw [List.pairwise_cons]
      refine ⟨fun x hx => ?_, ih hvs⟩
      rcases List.mem_cons.1 ((insertWindow_perm w vs).mem_iff.1 hx) with rfl | hx
      · omega
      · exact hv x hx

/-- Grants go on until no window is free or no record waits: every entry of the waiting list lacks an offset and so takes
a window each time that it comes to the head (R119, R124). -/
theorem grantUpTo_ends (n : Nat) (hs : s.TableSound) (hn : s.free ≤ n) (hnd : s.waiting.Nodup)
    (hlack : ∀ id ∈ s.waiting, ∃ r ∈ s.records, r.identity = id ∧ r.unplaced ≠ []) :
    (s.grantUpTo n).free = 0 ∨ (s.grantUpTo n).waiting = [] := by
  induction n generalizing s with
  | zero => exact .inl (by simpa [State.grantUpTo] using hn)
  | succ n ih =>
    cases hw : s.waiting with
    | nil => exact .inr (by simp [State.grantUpTo, hw])
    | cons id behind =>
      obtain ⟨r, hr, hi, hne⟩ := hlack id (hw ▸ List.mem_cons_self)
      obtain ⟨o, more, hu⟩ := List.exists_cons_of_ne_nil hne
      have hof := (recordOf_eq_some_iff hs).2 ⟨hr, hi⟩
      have hstep : s.grantUpTo (n + 1) = (s.grantHead id o more behind).grantUpTo n := by
        simp [State.grantUpTo, hw, hof, hu]
      have hP := grantHead_poolStep s id o more behind
      rw [hstep]
      rw [hw, List.nodup_cons] at hnd
      obtain ⟨hid, hnd⟩ := hnd
      refine ih (hP.tableSound hs) (by simpa using hn) ?_ fun j hj => ?_
      · rw [State.grantHead_waiting]
        split
        · exact hnd
        · exact List.nodup_append.2 ⟨hnd, List.nodup_singleton _, by
            rintro a ha b hb rfl
            exact hid (List.mem_singleton.1 hb ▸ ha)⟩
      · rw [grantHead_records hs hof hu]
        by_cases hji : j = id
        · refine ⟨r.granted 1, List.mem_map.2 ⟨r, hr, by simp [hi]⟩, by simp [hi, hji], ?_⟩
          rw [State.grantHead_waiting] at hj
          rw [granted_of_unplaced_cons hu]
          rintro (hmore : more = [])
          rw [if_pos hmore, hji] at hj
          exact hid hj
        · have hjb : j ∈ behind := by
            rw [State.grantHead_waiting] at hj
            split at hj
            · exact hj
            · simpa [hji] using hj
          obtain ⟨q, hq, hqi, hqu⟩ := hlack j (hw ▸ List.mem_cons_of_mem _ hjb)
          exact ⟨q, List.mem_map.2 ⟨q, hq, by simp [hqi, hji]⟩, hqi, hqu⟩

/-! ## The state after reset -/

theorem reset_sound : State.reset.Sound := by
  have hset : State.reset.settings.InRange := factorySettings_inRange
  refine ⟨⟨hset, by simp [State.reset], by simp [State.reset]⟩, by simp [State.StoreSound, State.reset],
    tableSound_of_records_nil rfl, fun n => ?_, rfl, by simp [State.WaitingSound, State.reset],
    searchSound_empty rfl rfl rfl, by simp [State.reset], by simp [State.RecordsSound, State.reset],
    ⟨by decide, by simp [State.reset]⟩, by simp [State.HighwaysSound, State.reset, silentHighway]⟩
  simp [State.reset, Vector.get_eq_getElem]

end Sys2Proof.Machine

open Sys2Proof Sys2Proof.Machine

/-- Settles O1. -/
theorem stepTakesFrontCommand : Obligations.StepTakesFrontCommand := by
  refine ⟨fun s i rest h => ?_, fun s h => ?_⟩ <;> simp [step, h]

/-- Settles O2: a step is a run of moves, none of which touches the queue. -/
theorem everyCommandCompletes : Obligations.EveryCommandCompletes := by
  intro i s
  obtain ⟨t, ht⟩ := exec_next i s
  have idle (h : exec i s = .next s) : t = s := by
    rw [ht] at h
    cases h
    rfl
  refine ⟨t, ht, exec_pending ht, fun hrun hr hp => idle (exec_of_not_running hrun hr hp), fun hpow hr => idle ?_⟩
  by_cases hp : i = .powerLoss
  · subst hp
    exact powerLoss_unpowered hpow
  · exact exec_of_not_running (by simp [State.running, hpow]) hr hp

/-- Settles O3. -/
theorem resetStateSound : Obligations.ResetStateSound :=
  ⟨reset_sound, by simp [State.TalkCountsSound, State.reset], rfl⟩

/-- Settles O23: a grant is an update of one record, and the grants are a recursion on it. -/
theorem grantsGoInTurn : Obligations.GrantsGoInTurn := by
  refine ⟨fun s id rest r o more hs hf hw hr hu => ?_, fun s h => grantAll_eq_self h,
    fun s hs hnd hlack => grantUpTo_ends s.free hs le_rfl hnd hlack,
    fun w held h => ⟨insertWindow_perm w held, insertWindow_sorted h⟩⟩
  rw [grantAll_eq_grantHead hf hw hr hu]
  unfold State.grantHead
  rw [update_eq_const hs hr]
  rfl
end

section
/-! SUPPORT. The operands of commands as they are read, and the bytes of replies (R10). -/

namespace Sys2Proof.Machine

/-! ## Operands -/

theorem parsePosition_of_eq {b : Byte} {pos : Position} (h : b.toNat = pos.val) : parsePosition b = some pos := by
  unfold parsePosition
  rw [dif_pos (h ▸ pos.isLt)]
  exact congrArg some (Fin.ext h)

theorem parsePosition_of_ge {b : Byte} (h : 128 ≤ b.toNat) : parsePosition b = none := by
  simp [parsePosition, h]

theorem exists_position {b : Byte} (h : b.toNat < 128) : ∃ pos : Position, b.toNat = pos.val := ⟨⟨b.toNat, h⟩, rfl⟩

theorem parseProfileNumber_of_eq {b : Byte} {n : ProfileNumber} (h : b.toNat = n.val) : parseProfileNumber b = some n := by
  unfold parseProfileNumber
  rw [dif_pos (h ▸ n.isLt)]
  exact congrArg some (Fin.ext h)

theorem parseProfileNumber_of_ge {b : Byte} (h : 8 ≤ b.toNat) : parseProfileNumber b = none := by
  simp [parseProfileNumber, h]

theorem parseLine_of_lt {b : Byte} (h : b.toNat < 4) : parseLine b = some ⟨b.toNat, h⟩ := by
  simp [parseLine, h]

theorem parseLine_of_ge {b : Byte} (h : 4 ≤ b.toNat) : parseLine b = none := by
  simp [parseLine, h]

variable {α : Type} {parse : Byte → Option α}

@[simp] theorem parseOptional_notGiven : parseOptional 0xFF parse = some none := rfl

theorem parseOptional_of_some {b : Byte} {a : α} (hne : b ≠ 0xFF) (h : parse b = some a) :
    parseOptional b parse = some (some a) := by
  unfold parseOptional
  rw [if_neg hne, h]
  rfl

theorem parseOptional_of_none {b : Byte} (hne : b ≠ 0xFF) (h : parse b = none) : parseOptional b parse = none := by
  unfold parseOptional
  rw [if_neg hne, h]
  rfl

theorem ne_notGiven_of_lt {b : Byte} (h : b.toNat < 255) : b ≠ 0xFF := by
  rintro rfl
  exact absurd h (by decide)

/-- An optional profile number that passes its check (R11, R18). -/
theorem parseOptional_profile {b : Byte} (h : b.toNat < 8 ∨ b = 0xFF) :
    ∃ number, parseOptional b parseProfileNumber = some number := by
  rcases h with h | rfl
  · exact ⟨some ⟨b.toNat, h⟩, parseOptional_of_some (ne_notGiven_of_lt (by omega)) (parseProfileNumber_of_eq rfl)⟩
  · exact ⟨none, rfl⟩

theorem parseMode_of_other {b : Byte} (h0 : b ≠ 0x00) (h1 : b ≠ 0x01) : parseMode b = none := by
  unfold parseMode
  rw [if_neg h0, if_neg h1]

theorem parseOptional_mode {b : Byte} (h : b = 0x00 ∨ b = 0x01 ∨ b = 0xFF) :
    ∃ mode, parseOptional b parseMode = some mode := by
  rcases h with rfl | rfl | rfl <;> exact ⟨_, rfl⟩

/-! ## Bytes -/

theorem natBytes2_eq (n : Nat) : natBytes2 n = twoBytes n := by
  have high : (BitVec.ofNat 16 n).extractLsb' 8 8 = BitVec.ofNat 8 (n / 256) := by
    apply BitVec.eq_of_toNat_eq
    simp only [BitVec.extractLsb'_toNat, BitVec.toNat_ofNat, Nat.shiftRight_eq_div_pow]
    omega
  have low : (BitVec.ofNat 16 n).extractLsb' 0 8 = BitVec.ofNat 8 n := by
    apply BitVec.eq_of_toNat_eq
    simp only [BitVec.extractLsb'_toNat, BitVec.toNat_ofNat, Nat.shiftRight_zero]
    omega
  simp [natBytes2, wordBytes, twoBytes, high, low]

end Sys2Proof.Machine
end

section
/-! SUPPORT. The commands that read a record, and RESEARCH, ACK_ALARMS and REBIND (O34, O36 to O40). -/

namespace Sys2Proof.Machine

variable {s : State}

/-- A command row on a running part, from its answer. -/
theorem takeCommand_eq {code : Byte} {act : State → Answer} {a : Answer} (hrun : s.running = true) (h : act s = a) :
    takeCommand code act s = .next (respond code a) := by rw [takeCommand_of_running hrun, h]

theorem searchStatus_byte_eq (st : SearchStatus) : st.byte =
    match st with | .noSearch => 0x00 | .waitingPriority => 0x01 | .waitingOrdinary => 0x02 | .running => 0x03 := by
  cases st <;> rfl

theorem padBytes_eq (pad : Option Nat) : padBytes pad = twoBytes (pad.getD 0) := by
  cases pad <;> exact natBytes2_eq _

theorem offsetBytes_eq (offsets : List Nat) : offsetBytes offsets = (List.range 3).flatMap fun i =>
    twoBytes (match offsets[i]? with | some o => o | none => 0xFFFF) := by
  unfold offsetBytes
  refine congrArg (fun f => List.flatMap f (List.range 3)) (funext fun i => ?_)
  rw [natBytes2_eq, List.getD_eq_getElem?_getD]
  cases offsets[i]? <;> rfl

theorem offsetBytes_held (held : List Window) : offsetBytes (held.map (·.offset)) = (List.range 3).flatMap fun i =>
    twoBytes (match held[i]? with | some w => w.offset | none => 0xFFFF) := by
  rw [offsetBytes_eq]
  refine congrArg (fun f => List.flatMap f (List.range 3)) (funext fun i => ?_)
  rw [List.getElem?_map]
  cases held[i]? <;> rfl

theorem resumeByte_eq (resume : Option ResumeState) : resumeByte resume =
    match resume with | none => 0xFF | some .settling => 0x00 | some .converged => 0x01 := by
  rcases resume with _ | x
  · rfl
  · cases x <;> rfl

theorem Tallies.bytes_eq (t : Tallies) : t.bytes = twoBytes t.convergedBlocks ++ twoBytes t.doubleTalkBlocks ++
    twoBytes t.suppressedBlocks ++ twoBytes t.clipBlocks ++ twoBytes t.searchesCompleted ++ twoBytes t.pathChanges ++
    twoBytes t.divergences := by simp only [Tallies.bytes, natBytes2_eq]

theorem lookBytes_eq (r : Record) (status : SearchStatus) : lookBytes r status =
    [r.identity.extractLsb' 8 8, r.identity.extractLsb' 0 8, byteOfNat r.position.val, byteOfNat r.profile.val,
      r.state.byte,
      match r.resume with | none => 0xFF | some .settling => 0x00 | some .converged => 0x01, boolByte r.freeze, byteOfNat r.held.length] ++
    ((List.range 3).flatMap (fun i => twoBytes (match r.held[i]? with | some w => w.offset | none => 0xFFFF)) ++ ([byteOfNat r.unplaced.length] ++ ((List.range 3).flatMap (fun i => twoBytes (match r.unplaced[i]? with | some o => o | none => 0xFFFF)) ++
    ([r.talk.byte] ++ (twoBytes r.nearHold ++ (twoBytes r.gainIn ++ (twoBytes r.gainOut ++ (twoBytes (r.padIn.getD 0) ++
    (twoBytes (r.padOut.getD 0) ++ (twoBytes r.background ++ ([r.noise.extractLsb' 8 8, r.noise.extractLsb' 0 8,
      byteOfNat r.passCount, byteOfNat r.failCount, byteOfNat r.toneCount, byteOfNat r.quietCount] ++
    ([byteOfNat (r.idleCount / 65536), byteOfNat (r.idleCount / 256), byteOfNat r.idleCount, status.byte,
      r.lastResult.byte, alarmByte r.alarms] ++ r.tallies.bytes)))))))))))) := by
  rw [lookBytes, offsetBytes_held, offsetBytes_eq, resumeByte_eq]
  simp only [natBytes2_eq, padBytes_eq, wordBytes, natBytes3, List.append_assoc, List.cons_append,
    List.nil_append]

/-! ## LOOK_WINDOW, LIST and ACK_ALARMS -/

/-- A window's 64 coefficients as words, by their places. -/
theorem flatMap_words (cs : List Sample) (h : cs.length = 64) : cs.flatMap wordBytes =
    (List.range 64).flatMap fun k => [(cs.getD k 0).extractLsb' 8 8, (cs.getD k 0).extractLsb' 0 8] := by
  have hcs : cs = (List.range 64).map fun k => cs.getD k 0 := by
    refine List.ext_getElem (by simp [h]) fun n h1 h2 => ?_
    simp [List.getD_eq_getElem?_getD, h1]
  conv_lhs => rw [hcs]
  rw [List.flatMap_map]
  rfl

/-- A record state stands in a state set by its flag (R10). -/
theorem states_and_flag (states : Byte) (st : RecordState) : (states &&& st.flag != 0) =
    match st with
    | .settling => states.getLsbD 0
    | .converged => states.getLsbD 1
    | .bypass => states.getLsbD 2
    | .transparent => states.getLsbD 3
    | .lapsed => states.getLsbD 4 := by
  cases st <;> simp only [RecordState.flag] <;> revert states <;> decide

/-- An alarm set of a LIST meets a record's alarm set in a kind (R30). -/
theorem alarms_and_alarmByte (alarms : Byte) (set : AlarmSet) : (alarms &&& alarmByte set != 0) = true ↔
    ∃ k : Fin 4, alarms.getLsbD k = true ∧ set.getLsbD k = true := by
  have hbit (k : Nat) : (alarms &&& alarmByte set).getLsbD k = (alarms.getLsbD k && (decide (k < 8) && set.getLsbD k)) := by
    simp [alarmByte]
  rw [bne_iff_ne]
  constructor
  · intro hne
    by_contra hno
    refine hne (BitVec.eq_of_getLsbD_eq fun k _ => ?_)
    rw [hbit, show (0 : Byte).getLsbD k = false from BitVec.getLsbD_zero]
    by_cases hk : k < 4
    · have := not_exists.1 hno ⟨k, hk⟩
      cases ha : alarms.getLsbD k <;> simp_all
    · simp [BitVec.getLsbD_of_ge set k (by omega)]
  · rintro ⟨k, ha, hset⟩ hzero
    have := hbit k
    rw [hzero, ha, hset] at this
    simp [show k.val < 8 by omega] at this

theorem listMatches_iff {states alarms : Byte} {r : Record} : listMatches states alarms r = true ↔
    (match r.state with
      | .settling => states.getLsbD 0
      | .converged => states.getLsbD 1
      | .bypass => states.getLsbD 2
      | .transparent => states.getLsbD 3
      | .lapsed => states.getLsbD 4) = true ∧
    (alarms = 0 ∨ ∃ k : Fin 4, alarms.getLsbD k = true ∧ r.alarms.getLsbD k = true) := by
  rw [listMatches, Bool.and_eq_true, states_and_flag, Bool.or_eq_true, beq_iff_eq, alarms_and_alarmByte]

theorem mem_listed {states alarms : Byte} {start id : Identity} : id ∈ s.listed states alarms start ↔
    ∃ r ∈ s.records, r.identity = id ∧ start ≤ id ∧ listMatches states alarms r = true := by
  simp only [State.listed, List.mem_insertionSort, List.mem_map, List.mem_filter, Bool.and_eq_true, decide_eq_true_eq]
  constructor
  · rintro ⟨r, ⟨hr, hm, hs⟩, rfl⟩
    exact ⟨r, hr, rfl, hs, hm⟩
  · rintro ⟨r, hr, rfl, hs, hm⟩
    exact ⟨r, ⟨hr, hm, hs⟩, rfl⟩

theorem listed_ascending (hs : s.TableSound) (states alarms : Byte) (start : Identity) :
    (s.listed states alarms start).Pairwise fun a b => a < b := by
  have hnd : (s.listed states alarms start).Nodup :=
    (List.perm_insertionSort _ _).nodup_iff.2 (hs.2.1.sublist (List.filter_sublist.map _))
  have hsorted : (s.listed states alarms start).Pairwise fun a b => a ≤ b := List.pairwise_insertionSort _ _
  exact (hsorted.and hnd).imp fun ⟨hle, hne⟩ => by bv_omega

end Sys2Proof.Machine

open Sys2Proof Sys2Proof.Machine

/-- Settles O37: the fields one after another, each of its width. -/
theorem lookReports : Obligations.LookReports := by
  intro s id hrun
  refine ⟨fun h => takeCommand_eq hrun (by simp [doLook, h]; rfl), fun r hr => ?_⟩
  obtain ⟨-, rfl⟩ := recordOf_some hr
  refine ⟨lookBytes r (s.searchStatus r.identity), takeCommand_eq hrun (by simp [doLook, hr, report]), ?_⟩
  rw [lookBytes_eq]
  exact ⟨rfl, rfl, rfl, rfl, rfl, rfl, rfl, r.tallies.bytes_eq⟩

/-- Settles O38. -/
theorem lookWindowAndFind : Obligations.LookWindowAndFind := by
  refine ⟨fun s id index hrun => ⟨fun h => takeCommand_eq hrun (by simp [doLookWindow, h]; rfl), fun r hr => ⟨?_, ?_⟩⟩,
    fun s position hrun hs => ⟨?_, ?_, ?_⟩⟩
  · intro hlen
    exact takeCommand_eq hrun (by simp [doLookWindow, hr, List.getElem?_eq_none hlen]; rfl)
  · intro w hw hlen
    exact takeCommand_eq hrun (by simp only [doLookWindow, hr, hw, natBytes2_eq, flatMap_words _ hlen]; rfl)
  · intro hpos
    exact takeCommand_eq hrun (by simp only [doFind, parsePosition_of_ge hpos]; rfl)
  · intro hpos hfree
    obtain ⟨pos, hp⟩ := exists_position (b := position) (by omega)
    have hnone : s.recordAt pos = none := recordAt_eq_none_iff.2 fun r hr he => hfree r hr (by rw [he, hp])
    exact takeCommand_eq hrun (by simp only [doFind, parsePosition_of_eq hp, hnone]; rfl)
  · intro r hr hpos
    have hat : s.recordAt r.position = some r := (recordAt_eq_some_iff hs).2 ⟨hr, rfl⟩
    exact takeCommand_eq hrun (by simp only [doFind, parsePosition_of_eq hpos.symm, hat]; rfl)

/-- Settles O39. -/
theorem listAnswers : Obligations.ListAnswers := by
  refine fun s states alarms start hrun hs => ⟨fun h => takeCommand_eq hrun (by rw [doList, if_pos h]; rfl), ?_⟩
  intro hstates halarms
  refine ⟨s.listed states alarms start, listed_ascending hs _ _ _, fun id => mem_listed.trans ?_, takeCommand_eq hrun ?_⟩
  · exact exists_congr fun r => and_congr_right fun _ => and_congr_right fun _ => and_congr_right fun _ => listMatches_iff
  · rw [doList, if_neg fun h => h.elim (absurd hstates) (absurd halarms)]
    simp only [report, List.length_take, boolByte, decide_eq_true_eq]
    rfl

/-- Settles O40. -/
theorem ackAlarmsRemoves : Obligations.AckAlarmsRemoves := by
  intro s id alarms hrun hs
  refine ⟨fun h => takeCommand_eq hrun (by rw [doAckAlarms, if_pos h]; rfl), fun h => ⟨fun hr => ?_, fun r hr => ?_⟩⟩
  · exact takeCommand_eq hrun (by rw [doAckAlarms, if_neg (not_not.2 h), hr]; rfl)
  · refine ⟨r.alarms &&& ~~~(alarms.setWidth 4), fun k hk => by simp [hk], takeCommand_eq hrun ?_⟩
    rw [doAckAlarms, if_neg (not_not.2 h), hr]
    dsimp only
    rw [update_eq_const hs hr]
    rfl
end

section
/-! SUPPORT. RESEARCH, REBIND and MOVE_LINE (O34 to O36). -/

namespace Sys2Proof.Machine

variable {s : State}

/-! ## RESEARCH -/

theorem parseLane_of_other {b : Byte} (h0 : b ≠ 0x00) (h1 : b ≠ 0x01) : parseLane b = none := by
  unfold parseLane
  rw [if_neg h0, if_neg h1]

/-- What a request does, by the search status it finds (R98). -/
theorem request_of_status (s : State) (id : Identity) (l : Lane) : s.request l id =
    match s.searchStatus id with
    | .noSearch =>
      if l = .ordinary then State.arbitrate { s with ordinaryLane := s.ordinaryLane ++ [id] }
      else State.arbitrate { s with priorityLane := s.priorityLane ++ [id] }
    | .waitingOrdinary =>
      if l = .ordinary then s
      else State.arbitrate
        { s with ordinaryLane := s.ordinaryLane.filter (· != id), priorityLane := s.priorityLane ++ [id] }
    | .waitingPriority => s
    | .running => s := by
  unfold State.request
  cases s.searchStatus id <;> cases l <;> rfl

theorem doResearch_accepted {id : Identity} {lane : Byte} {l : Lane} {r : Record} (hl : parseLane lane = some l)
    (hr : s.recordOf id = some r) (hc : cancels r.state = true) :
    doResearch id lane s =
      { state := s.request l id
        status := .ok
        results :=
          [indicateIf (s.searchStatus id != .noSearch) .alreadySearching, ((s.request l id).searchStatus id).byte] } := by
  have hst : r.state ≠ .lapsed ∧ ¬(r.state = .transparent ∨ r.state = .bypass) := by
    rcases cancels_iff.1 hc with h | h <;> simp [h]
  simp only [doResearch, hl, hr]
  rw [if_neg hst.1, if_neg hst.2]

/-! ## The keys of a REBIND -/

theorem recordAt_isSome_iff {pos : Position} : (s.recordAt pos).isSome = true ↔ ∃ q ∈ s.records, q.position = pos := by
  simp [State.recordAt, List.find?_isSome]

/-! ## MOVE_LINE -/

theorem sameSlotOn_eq_iff {line : Fin 4} {p q : Position} :
    q = sameSlotOn line p ↔ q.val = line.val * 32 + p.val % 32 := Fin.ext_iff

/-- Whether a record of the from-line finds its slot taken on the to-line, spelled out. -/
theorem occupied_eq (s : State) (a b : Fin 4) :
    ((s.onLine a).any fun r => (s.recordAt (sameSlotOn b r.position)).isSome) =
      s.records.any fun r => r.position.val / 32 == a.val &&
        s.records.any fun q => q.position.val == b.val * 32 + r.position.val % 32 := by
  rw [State.onLine, List.any_filter]
  refine congrArg (List.any s.records) (funext fun r => congrArg _ ?_)
  rw [Bool.eq_iff_iff, recordAt_isSome_iff, List.any_eq_true]
  simp only [beq_iff_eq, sameSlotOn_eq_iff]

/-- A MOVE_LINE that passes its checks. -/
theorem doMoveLine_accepted {fromLine toLine : Byte} {a b : Fin 4} (ha : parseLine fromLine = some a)
    (hb : parseLine toLine = some b) (hne : a ≠ b)
    (hfree : ((s.onLine a).any fun r => (s.recordAt (sameSlotOn b r.position)).isSome) = false) :
    doMoveLine fromLine toLine s =
      { state := { s with records := s.records.map (movedRecord a b), slots := s.restartLine a s.slots }
        status := .ok
        results := [byteOfNat (s.onLine a).length] } := by
  simp only [doMoveLine, ha, hb]
  rw [if_neg hne, hfree]
  rfl

theorem movedRecord_of_on {a b : Fin 4} {r : Record} (h : lineOf r.position = a.val) :
    movedRecord a b r = moveRecord (sameSlotOn b r.position) r := if_pos h

theorem movedRecord_identity (a b : Fin 4) (r : Record) : (movedRecord a b r).identity = r.identity := by
  unfold movedRecord
  split
  · exact moveRecord_identity r _
  · rfl

theorem movedRecord_of_off {a b : Fin 4} {r : Record} (h : lineOf r.position ≠ a.val) : movedRecord a b r = r := if_neg h

/-- What becomes of the slot of a record of the line, and of another's (R112). -/
theorem mem_restartLine_on (hs : s.TableSound) {a : Fin 4} {r : Record} (hr : r ∈ s.records)
    (h : lineOf r.position = a.val) {sl : Slot} (hsl : sl ∈ s.slots) (hi : sl.identity = r.identity) :
    freshSlot r.identity ∈ s.restartLine a s.slots := by
  refine List.mem_map.2 ⟨sl, hsl, ?_⟩
  rw [(recordOf_eq_some_iff hs).2 ⟨hr, hi.symm⟩]
  dsimp only
  rw [if_pos h, hi]

theorem mem_restartLine_off (hs : s.TableSound) {a : Fin 4} {r : Record} (hr : r ∈ s.records)
    (h : lineOf r.position ≠ a.val) {sl : Slot} (hsl : sl ∈ s.slots) (hi : sl.identity = r.identity) :
    sl ∈ s.restartLine a s.slots := by
  refine List.mem_map.2 ⟨sl, hsl, ?_⟩
  rw [(recordOf_eq_some_iff hs).2 ⟨hr, hi.symm⟩]
  exact if_neg h

theorem restartLine_identities (s : State) (a : Fin 4) (slots : List Slot) :
    (s.restartLine a slots).map (·.identity) = slots.map (·.identity) := by
  rw [State.restartLine, List.map_map]
  refine List.map_congr_left fun sl _ => ?_
  simp only [Function.comp]
  split
  · split <;> rfl
  · rfl

end Sys2Proof.Machine

open Sys2Proof Sys2Proof.Machine

/-- Settles O36. -/
theorem researchActs : Obligations.ResearchActs := by
  refine fun s id lane hrun => ⟨fun h0 h1 => takeCommand_eq hrun (by rw [doResearch, parseLane_of_other h0 h1]; rfl), ?_⟩
  intro hlane
  have hparse : parseLane lane = some (if lane = 0x00 then .ordinary else .priority) := by
    rcases hlane with rfl | rfl <;> rfl
  have hord : ((if lane = 0x00 then Lane.ordinary else .priority) = .ordinary) ↔ lane = 0x00 := by
    rcases hlane with rfl | rfl <;> simp
  refine ⟨fun h => takeCommand_eq hrun (by simp only [doResearch, hparse, h]; rfl), fun r hr => ⟨fun h => ?_, fun h => ?_,
    fun h => ?_⟩⟩
  · exact takeCommand_eq hrun (by simp only [doResearch, hparse, hr, h]; rfl)
  · refine takeCommand_eq hrun ?_
    have hl : r.state ≠ .lapsed := by rcases h with h | h <;> simp [h]
    simp only [doResearch, hparse, hr]
    rw [if_neg hl, if_pos h]
    rfl
  · refine takeCommand_eq hrun ?_
    rw [doResearch_accepted hparse hr (cancels_iff.2 h), request_of_status, searchStatus_byte_eq]
    simp only [hord]
    cases s.searchStatus id <;> rfl

/-- Settles O34. -/
theorem rebindMoves : Obligations.RebindMoves := by
  refine fun s id position hrun hs => ⟨fun h => takeCommand_eq hrun (by rw [doRebind, parsePosition_of_ge h]; rfl), ?_⟩
  intro pos hpos
  have hparse := parsePosition_of_eq hpos
  refine ⟨fun h => takeCommand_eq hrun (by simp only [doRebind, hparse, h]; rfl), fun r hr => ⟨fun h => ?_, fun h hq => ?_,
    fun h hq => ?_⟩⟩
  · exact takeCommand_eq hrun (by simp only [doRebind, hparse, hr, h]; rfl)
  · refine takeCommand_eq hrun ?_
    simp only [doRebind, hparse, hr]
    rw [if_neg h, if_pos (recordAt_isSome_iff.2 hq)]
    rfl
  · refine takeCommand_eq hrun ?_
    simp only [doRebind, hparse, hr]
    rw [if_neg h, if_neg fun hsome => hq (recordAt_isSome_iff.1 hsome), update_eq_const hs hr]
    rfl

/-- Settles O35: each record of the line and its slot, as the move leaves them. -/
theorem moveLineMoves : Obligations.MoveLineMoves := by
  intro s fromLine toLine hrun hs _
  refine ⟨fun h => takeCommand_eq hrun ?_, fun ha hb hne => ⟨fun hocc => takeCommand_eq hrun ?_, fun hocc => ?_⟩⟩
  · by_cases ha : 4 ≤ fromLine.toNat
    · simp only [doMoveLine, parseLine_of_ge ha]
      rfl
    · by_cases hb : 4 ≤ toLine.toNat
      · simp only [doMoveLine, parseLine_of_ge hb]
        rcases parseLine fromLine with _ | a <;> rfl
      · obtain rfl : fromLine = toLine := (h.resolve_left ha).resolve_left hb
        simp only [doMoveLine, parseLine_of_lt (not_le.1 ha), if_true]
        rfl
  · have hlines : (⟨fromLine.toNat, ha⟩ : Fin 4) ≠ ⟨toLine.toNat, hb⟩ :=
      fun he => hne (BitVec.eq_of_toNat_eq (Fin.mk.inj he))
    simp only [doMoveLine, parseLine_of_lt ha, parseLine_of_lt hb]
    rw [if_neg hlines, occupied_eq, if_pos hocc]
    rfl
  · have hlines : (⟨fromLine.toNat, ha⟩ : Fin 4) ≠ ⟨toLine.toNat, hb⟩ :=
      fun he => hne (BitVec.eq_of_toNat_eq (Fin.mk.inj he))
    refine ⟨{ s with
        records := s.records.map (movedRecord ⟨fromLine.toNat, ha⟩ ⟨toLine.toNat, hb⟩)
        slots := s.restartLine ⟨fromLine.toNat, ha⟩ s.slots },
      takeCommand_eq hrun ((doMoveLine_accepted (parseLine_of_lt ha) (parseLine_of_lt hb) hlines
      ((occupied_eq s _ _).trans hocc)).trans ?_), ?_, fun r hr hoff => ⟨?_, fun sl hsl hi => ?_⟩, fun r hr hon => ?_,
      restartLine_identities s _ s.slots, rfl⟩
    · simp only [State.onLine, List.countP_eq_length_filter]
      rfl
    · rw [List.map_map]
      exact List.map_congr_left fun r _ => movedRecord_identity _ _ r
    · exact List.mem_map.2 ⟨r, hr, movedRecord_of_off hoff⟩
    · exact mem_restartLine_off (a := ⟨fromLine.toNat, ha⟩) hs hr hoff hsl hi
    · refine ⟨_, List.mem_map.2 ⟨r, hr, movedRecord_of_on hon⟩, ?_, fun hl => ?_, fun hl => ⟨?_, fun sl hsl hi => ?_⟩⟩
      · rw [moveRecord_position]
        rfl
      · simp only [moveRecord, if_pos hl]
      · simp only [moveRecord, if_neg hl]
        rfl
      · exact mem_restartLine_on (a := ⟨fromLine.toNat, ha⟩) hs hr hon hsl hi
end

section
/-! SUPPORT. ATTACH (O28, O29). -/

namespace Sys2Proof.Machine

variable {s : State}

/-! ## The checks -/

/-- The duplicate check, spelled out over the table (R11, check 4). -/
theorem isDuplicate_eq_any (hs : s.TableSound) (id : Identity) (pos : Position) : s.isDuplicate id pos =
    s.records.any fun r => r.identity == id && !(r.state == .lapsed && r.position.val == pos.val) := by
  have hpos (r : Record) : (r.position.val == pos.val) = (r.position == pos) := by
    rw [Bool.eq_iff_iff, beq_iff_eq, beq_iff_eq, Fin.ext_iff]
  simp only [hpos]
  rw [Bool.eq_iff_iff, List.any_eq_true]
  unfold State.isDuplicate
  cases h : s.recordOf id with
  | none =>
    simp only [Bool.false_eq_true, false_iff]
    rintro ⟨r, hr, hc⟩
    rw [Bool.and_eq_true, beq_iff_eq] at hc
    exact recordOf_eq_none_iff.1 h r hr hc.1
  | some r =>
    obtain ⟨hr, hi⟩ := recordOf_some h
    refine ⟨fun hd => ⟨r, hr, by simpa [hi] using hd⟩, ?_⟩
    rintro ⟨q, hq, hc⟩
    rw [Bool.and_eq_true, beq_iff_eq] at hc
    rw [← eq_of_identity_eq hs hq hr (hc.1.trans hi.symm)]
    exact hc.2

/-- The position check, spelled out over the table (R11, check 5). -/
theorem isTaken_eq_any (hs : s.TableSound) (pos : Position) : s.isTaken pos =
    s.records.any fun r => r.position.val == pos.val && r.state != .lapsed := by
  rw [Bool.eq_iff_iff, List.any_eq_true]
  unfold State.isTaken
  cases h : s.recordAt pos with
  | none =>
    simp only [Bool.false_eq_true, false_iff]
    rintro ⟨r, hr, hc⟩
    rw [Bool.and_eq_true, beq_iff_eq] at hc
    exact recordAt_eq_none_iff.1 h r hr (Fin.ext hc.1)
  | some r =>
    obtain ⟨hr, hp⟩ := recordAt_some h
    refine ⟨fun hd => ⟨r, hr, by simpa [hp] using hd⟩, ?_⟩
    rintro ⟨q, hq, hc⟩
    rw [Bool.and_eq_true, beq_iff_eq] at hc
    rw [← eq_of_position_eq hs hq hr ((Fin.ext hc.1).trans hp.symm)]
    exact hc.2

theorem recordAt_of_not_any {pos : Position} (h : (s.records.any fun r => r.position.val == pos.val) = false) :
    s.recordAt pos = none := by
  refine recordAt_eq_none_iff.2 fun r hr hp => ?_
  have := List.any_eq_false.1 h r hr
  simp [hp] at this

end Sys2Proof.Machine

open Sys2Proof Sys2Proof.Machine

/-- Settles O28. -/
theorem attachRefusals : Obligations.AttachRefusals := by
  intro s id position profile mode hrun hs
  refine ⟨fun h => takeCommand_eq hrun ?_, fun h h8 hne => takeCommand_eq hrun ?_,
    fun h hprof h0 h1 hff => takeCommand_eq hrun ?_, fun h hprof hmode => ?_⟩
  · simp only [doAttach, parsePosition_of_ge h]
    rfl
  · obtain ⟨pos, hp⟩ := exists_position h
    simp only [doAttach, parsePosition_of_eq hp, parseOptional_of_none hne (parseProfileNumber_of_ge h8)]
    rfl
  · obtain ⟨pos, hp⟩ := exists_position h
    obtain ⟨number, hn⟩ := parseOptional_profile hprof
    simp only [doAttach, parsePosition_of_eq hp, hn, parseOptional_of_none hff (parseMode_of_other h0 h1)]
    rfl
  · obtain ⟨pos, hp⟩ := exists_position h
    obtain ⟨number, hn⟩ := parseOptional_profile hprof
    obtain ⟨m, hm⟩ := parseOptional_mode hmode
    rw [hp]
    refine ⟨fun hheld => takeCommand_eq hrun ?_, fun hheld htaken => takeCommand_eq hrun ?_,
      fun hheld hbound hfull => takeCommand_eq hrun ?_⟩
    · simp only [doAttach, parsePosition_of_eq hp, hn, hm]
      rw [isDuplicate_eq_any hs, if_pos hheld]
      rfl
    · simp only [doAttach, parsePosition_of_eq hp, hn, hm]
      rw [isDuplicate_eq_any hs, hheld, isTaken_eq_any hs, if_neg Bool.false_ne_true, if_pos htaken]
      rfl
    · have hnone := recordAt_of_not_any hbound
      simp only [doAttach, parsePosition_of_eq hp, hn, hm]
      rw [isDuplicate_eq_any hs, hheld, if_neg Bool.false_ne_true, if_neg (by simp [State.isTaken, hnone]),
        if_pos (by simp [State.isFull, hnone, hfull])]
      rfl
end

section
/-! SUPPORT. The checks of MODIFY (O31). -/

namespace Sys2Proof.Machine

variable {s : State}

/-! ## Which operands are read -/

theorem parseOptional_isSome {α : Type} (b : Byte) (parse : Byte → Option α) :
    (parseOptional b parse).isSome = (b == 0xFF || (parse b).isSome) := by
  unfold parseOptional
  split
  · rename_i h
    simp [h]
  · rename_i h
    rw [beq_false_of_ne h, Bool.false_or, Option.isSome_map]

theorem parseMode_isSome (b : Byte) : (parseMode b).isSome = (b == 0x00 || b == 0x01) := by
  unfold parseMode
  split
  · rename_i h; rw [h]; rfl
  · rename_i h0
    split
    · rename_i h; rw [h]; rfl
    · rename_i h1
      rw [beq_false_of_ne h0, beq_false_of_ne h1]; rfl

theorem parseBool_isSome (b : Byte) : (parseBool b).isSome = (b == 0x00 || b == 0x01) := by
  unfold parseBool
  split
  · rename_i h; rw [h]; rfl
  · rename_i h0
    split
    · rename_i h; rw [h]; rfl
    · rename_i h1
      rw [beq_false_of_ne h0, beq_false_of_ne h1]; rfl

theorem parsePad_isSome (w : BitVec 16) : (parsePad w).isSome =
    (w == 0x0000 || w == 0xFFFF || (decide (1024 ≤ w.toNat) && decide (w.toNat ≤ 16383))) := by
  unfold parsePad
  split
  · rename_i h; rw [h]; rfl
  · rename_i hf
    split
    · rename_i h; rw [h]; rfl
    · rename_i h0
      rw [beq_false_of_ne h0, beq_false_of_ne hf]
      split
      · rename_i h; simp [h]
      · rename_i h; simpa using h

/-- The operands of MODIFY but for the profile, as they are read (R18). -/
structure ModifyReads (mode freeze : Byte) (padIn padOut : BitVec 16) (gainReset : Byte) (m : Option Mode)
    (f : Option Bool) (pin pout : PadChange) (g : Bool) : Prop where
  mode : parseOptional mode parseMode = some m
  freeze : parseOptional freeze parseBool = some f
  padIn : parsePad padIn = some pin
  padOut : parsePad padOut = some pout
  gainReset : parseBool gainReset = some g

variable {id : Identity} {mode freeze profile : Byte} {padIn padOut : BitVec 16} {gainReset : Byte}
variable {number : Option ProfileNumber} {m : Option Mode} {f : Option Bool} {pin pout : PadChange} {g : Bool}

/-- A MODIFY whose operands can be read looks for its record (R18). -/
theorem doModify_of_reads (hn : parseOptional profile parseProfileNumber = some number)
    (h : ModifyReads mode freeze padIn padOut gainReset m f pin pout g) :
    doModify id mode freeze profile padIn padOut gainReset s =
      (s.recordOf id).elim (refuse s .noRecord) fun r =>
        if r.state = .lapsed then refuse s .recordLapsed else modifyRecord r m f number pin pout g s := by
  unfold doModify
  rw [hn, h.mode, h.freeze, h.padIn, h.padOut, h.gainReset]
  cases s.recordOf id <;> rfl

theorem doModify_of_record (hn : parseOptional profile parseProfileNumber = some number)
    (h : ModifyReads mode freeze padIn padOut gainReset m f pin pout g) {r : Record} (hr : s.recordOf id = some r)
    (hl : r.state ≠ .lapsed) :
    doModify id mode freeze profile padIn padOut gainReset s = modifyRecord r m f number pin pout g s := by
  rw [doModify_of_reads hn h, hr]
  exact if_neg hl

/-- Every operand but the profile can be read (R18). -/
def modifyReadable (mode freeze : Byte) (padIn padOut : BitVec 16) (gainReset : Byte) : Bool :=
  (parseOptional mode parseMode).isSome && (parseOptional freeze parseBool).isSome && (parseBool gainReset).isSome &&
    (parsePad padIn).isSome && (parsePad padOut).isSome

theorem exists_modifyReads (h : modifyReadable mode freeze padIn padOut gainReset = true) :
    ∃ m f pin pout g, ModifyReads mode freeze padIn padOut gainReset m f pin pout g := by
  simp only [modifyReadable, Bool.and_eq_true, Option.isSome_iff_exists] at h
  obtain ⟨⟨⟨⟨⟨m, hm⟩, f, hf⟩, g, hg⟩, pin, hpin⟩, pout, hpout⟩ := h
  exact ⟨m, f, pin, pout, g, hm, hf, hpin, hpout, hg⟩

theorem doModify_unreadable (hn : parseOptional profile parseProfileNumber = some number)
    (h : modifyReadable mode freeze padIn padOut gainReset = false) :
    doModify id mode freeze profile padIn padOut gainReset s = refuse s .badField := by
  simp only [doModify, hn]
  split
  · simp_all [modifyReadable]
  · rfl

/-- The fields of MODIFY that R10 allows are those that can be read. -/
theorem modifyReadable_eq (mode freeze : Byte) (padIn padOut : BitVec 16) (gainReset : Byte) :
    modifyReadable mode freeze padIn padOut gainReset =
      ((mode == 0x00 || mode == 0x01 || mode == 0xFF) && (freeze == 0x00 || freeze == 0x01 || freeze == 0xFF) &&
        (gainReset == 0x00 || gainReset == 0x01) &&
        (padIn == 0x0000 || padIn == 0xFFFF || (decide (1024 ≤ padIn.toNat) && decide (padIn.toNat ≤ 16383))) &&
        (padOut == 0x0000 || padOut == 0xFFFF || (decide (1024 ≤ padOut.toNat) && decide (padOut.toNat ≤ 16383)))) := by
  simp only [modifyReadable, parseOptional_isSome, parseMode_isSome, parseBool_isSome, parsePad_isSome]
  rw [Bool.or_comm (mode == 0xFF), Bool.or_comm (freeze == 0xFF)]

/-- Every operand not given (R18). -/
theorem modifyReads_notGiven : ModifyReads 0xFF 0xFF 0xFFFF 0xFFFF 0x00 none none .keep .keep false :=
  ⟨rfl, rfl, rfl, rfl, rfl⟩

theorem changeLevels_notGiven (p : Profile) (r : Record) : changeLevels p false .keep .keep none r = r := rfl

theorem changeMode_none (s : State) (id : Identity) : s.changeMode id none = (s, false) := by
  unfold State.changeMode
  cases s.recordOf id <;> rfl

theorem modifyRecord_notGiven (r : Record) (s : State) :
    modifyRecord r none none none .keep .keep false s = { state := s, status := .ok, results := [0x00] } := by
  rw [modifyRecord_eq]
  simp only [State.reprofile]
  rw [update_eq_self (f := changeLevels _ false .keep .keep none) fun q _ _ => changeLevels_notGiven _ q]
  rw [changeMode_none]
  rfl

end Sys2Proof.Machine

open Sys2Proof Sys2Proof.Machine

/-- Settles O31. -/
theorem modifyRefusals : Obligations.ModifyRefusals := by
  intro s id mode freeze profile padIn padOut gainReset hrun _
  refine ⟨fun h8 hne => takeCommand_eq hrun ?_, fun hprof hf => takeCommand_eq hrun ?_,
    fun hprof hf hr => takeCommand_eq hrun ?_, fun hprof hf hl => takeCommand_eq hrun ?_,
    fun hl => takeCommand_eq hrun ?_⟩
  · simp only [doModify, parseOptional_of_none hne (parseProfileNumber_of_ge h8)]
    rfl
  · obtain ⟨number, hn⟩ := parseOptional_profile hprof
    exact doModify_unreadable hn ((modifyReadable_eq _ _ _ _ _).trans hf)
  · obtain ⟨number, hn⟩ := parseOptional_profile hprof
    obtain ⟨m, f, pin, pout, g, h⟩ := exists_modifyReads ((modifyReadable_eq _ _ _ _ _).trans hf)
    rw [doModify_of_reads hn h, hr]
    rfl
  · obtain ⟨number, hn⟩ := parseOptional_profile hprof
    obtain ⟨m, f, pin, pout, g, h⟩ := exists_modifyReads ((modifyReadable_eq _ _ _ _ _).trans hf)
    obtain ⟨r, hr, hst⟩ := (Option.any_eq_true _ _).1 hl
    rw [doModify_of_reads hn h, hr]
    exact if_pos (by simpa using hst)
  · obtain ⟨r, hr, hst⟩ := (Option.any_eq_true _ _).1 hl
    rw [doModify_of_record (number := none) rfl modifyReads_notGiven hr (by simpa using hst)]
    exact modifyRecord_notGiven r s
end

section
/-! SUPPORT. The beginning of cancellation and the creation of a record (O29, and the CANCEL mode of O33). -/

namespace Sys2Proof.Machine

variable {s : State} {id : Identity} {r : Record}

/-! ## Cancellation begins -/

/-- A record after its provisional claim, `short` where no window was free (R15, R120). -/
def Record.provisional (short : Bool) (o : Nat) (r : Record) : Record :=
  { r with
    held := if short then r.held else [zeroWindow o]
    unplaced := if short then [o] else r.unplaced
    alarms := if short then r.alarms ||| 0x8 else r.alarms }

/-- A record as the beginning of cancellation leaves it under its profile (R15, R21). -/
def Record.begun (p : Profile) (short : Bool) (r : Record) : Record :=
  if 1 ≤ p.windowLimit then r.provisional short p.provisionalOffset else r

theorem holdsAlarm_windowShort (a : AlarmSet) : holdsAlarm a .windowShort = false ↔ a &&& 0x8 = 0 := by
  simp only [holdsAlarm, Alarm.flag]
  revert a
  decide

/-- A record that lacks some offsets (R4). -/
def Record.lacking (offsets : List Nat) (r : Record) : Record := { r with unplaced := offsets }

/-- A wait as one change of the table, the waiting list and the summary (R119, R126). -/
theorem waitFor_eq (hs : s.TableSound) (hr : s.recordOf id = some r) (offsets : List Nat) :
    s.waitFor id offsets =
      { s with
        records := s.records.map fun q => if q.identity = id then (r.lacking offsets).withAlarm .windowShort else q
        waiting := s.waiting ++ [id]
        summary := if r.alarms &&& 0x8 = 0 then s.summary ||| 0x10 else s.summary } := by
  have hkeys : ∀ q, (Record.lacking offsets q).identity = q.identity := fun _ => rfl
  have hw : State.TableSound { s.update id (Record.lacking offsets) with waiting := s.waiting ++ [id] } :=
    (PoolStep.update s id (f := Record.lacking offsets) (fun _ => rfl) s.free _ s.summary).tableSound hs
  have hrw : State.recordOf { s.update id (Record.lacking offsets) with waiting := s.waiting ++ [id] } id =
      some (r.lacking offsets) := recordOf_update_self hkeys hr
  have hrec : ((s.update id (Record.lacking offsets)).update id (Record.withAlarm .windowShort)).records =
      s.records.map fun q => if q.identity = id then (r.lacking offsets).withAlarm .windowShort else q := by
    rw [update_update s id _ hkeys, update_eq_const hs hr]
    rfl
  have hsum : (if holdsAlarm r.alarms .windowShort then s.summary else s.summary ||| EventKind.recordAlarm.flag) =
      if r.alarms &&& 0x8 = 0 then s.summary ||| 0x10 else s.summary := by
    simp only [← holdsAlarm_windowShort]
    cases holdsAlarm r.alarms .windowShort <;> rfl
  calc s.waitFor id offsets
      = State.raiseAlarm { s.update id (Record.lacking offsets) with waiting := s.waiting ++ [id] } id .windowShort := rfl
    _ = { s with
          records := ((s.update id (Record.lacking offsets)).update id (Record.withAlarm .windowShort)).records
          waiting := s.waiting ++ [id]
          summary := if holdsAlarm r.alarms .windowShort then s.summary else s.summary ||| EventKind.recordAlarm.flag } :=
        raiseAlarm_of_some hw hrw _
    _ = _ := by rw [hrec, hsum]

/-- The provisional claim as one change of the table, the pool and the summary (R120). -/
theorem claimProvisional_eq (hs : s.TableSound) (hr : s.recordOf id = some r) (o : Nat) :
    s.claimProvisional id o =
      { s with
        records := s.records.map fun q => if q.identity = id then r.provisional (s.free == 0) o else q
        free := if s.free == 0 then s.free else s.free - 1
        waiting := if s.free == 0 then s.waiting ++ [id] else s.waiting
        summary := if (s.free == 0) = true ∧ r.alarms &&& 0x8 = 0 then s.summary ||| 0x10 else s.summary } := by
  unfold State.claimProvisional
  by_cases hf : s.free = 0
  · rw [if_pos hf, waitFor_eq hs hr, show (s.free == 0) = true by simp [hf]]
    simp only [true_and]
    rfl
  · rw [if_neg hf, update_eq_const hs hr, show (s.free == 0) = false by simp [hf]]
    rfl

/-- The lanes and slots as the request at the beginning of cancellation leaves them (R15). -/
def State.begunSearch (s : State) (id : Identity) (p : Profile) : State :=
  if decide (1 ≤ p.windowLimit) && p.searchOn then s.request .ordinary id else s

/-- The beginning of cancellation as one change of the table, the pool, the search unit and the summary (R15, R21). -/
theorem beginCancel_eq (hs : s.TableSound) (hr : s.recordOf id = some r) (p : Profile) :
    s.beginCancel id p =
      { s with
        records := s.records.map fun q => if q.identity = id then r.begun p (s.free == 0) else q
        free := if decide (1 ≤ p.windowLimit) && !s.claimShort p then s.free - 1 else s.free
        waiting := if s.claimShort p then s.waiting ++ [id] else s.waiting
        summary := if s.claimShort p = true ∧ r.alarms &&& 0x8 = 0 then s.summary ||| 0x10 else s.summary
        priorityLane := (s.begunSearch id p).priorityLane
        ordinaryLane := (s.begunSearch id p).ordinaryLane
        slots := (s.begunSearch id p).slots } := by
  unfold State.beginCancel
  by_cases hlim : 1 ≤ p.windowLimit
  · have hshort : s.claimShort p = (s.free == 0) := by simp [State.claimShort, hlim]
    have hclaim := claimProvisional_eq hs hr p.provisionalOffset
    have hbegun : r.begun p (s.free == 0) = r.provisional (s.free == 0) p.provisionalOffset := if_pos hlim
    have hfree : (if s.free == 0 then s.free else s.free - 1) = if true && !(s.free == 0) then s.free - 1 else s.free := by
      cases s.free == 0 <;> rfl
    rw [if_pos hlim, hshort, hbegun, decide_eq_true hlim, ← hfree]
    unfold State.begunSearch
    rw [decide_eq_true hlim, Bool.true_and]
    dsimp only
    cases hon : p.searchOn with
    | false => exact hclaim
    | true =>
      rw [if_pos rfl, if_pos rfl, request_eq, hclaim]
      obtain ⟨h1, h2, h3⟩ := request_congr .ordinary id (s := s) (t := s.claimProvisional id p.provisionalOffset)
        (claimProvisional_poolStep _ _ _).priorityLane (claimProvisional_poolStep _ _ _).ordinaryLane
        (claimProvisional_poolStep _ _ _).slots
      rw [hclaim] at h1 h2 h3
      rw [h1, h2, h3]
  · have hshort : s.claimShort p = false := by simp [State.claimShort, hlim]
    have hself : s.records.map (fun q => if q.identity = id then r.begun p (s.free == 0) else q) = s.records := by
      have := congrArg State.records (update_eq_self (s := s) (id := id) (f := fun _ => r) fun q hq hi =>
        (eq_of_identity_eq hs hq (recordOf_some hr).1 (hi.trans (recordOf_some hr).2.symm)).symm)
      rwa [show r.begun p (s.free == 0) = r from if_neg hlim]
    rw [if_neg hlim, hself, hshort, decide_eq_false hlim]
    simp [State.begunSearch, hlim]

end Sys2Proof.Machine
end

section
/-! SUPPORT. What ATTACH creates (O29). -/

namespace Sys2Proof.Machine

variable {s : State} {id : Identity} {pos : Position}

/-! ## The route -/

theorem ruleMatches_eq (rule : RouteRule) (id : Identity) : ruleMatches rule id =
    decide (∀ k : Fin 16, rule.mask.getLsbD k = true ∨ id.getLsbD k = rule.base.getLsbD k) := by
  rw [Bool.eq_iff_iff, ruleMatches, beq_iff_eq, decide_eq_true_iff, BitVec.eq_of_getLsbD_eq_iff]
  constructor
  · intro h k
    have := h k.val k.isLt
    simp only [BitVec.getLsbD_and, BitVec.getLsbD_xor, BitVec.getLsbD_not, k.isLt] at this
    revert this
    cases rule.mask.getLsbD k <;> cases id.getLsbD k <;> cases rule.base.getLsbD k <;> simp
  · intro h k hk
    simp only [BitVec.getLsbD_and, BitVec.getLsbD_xor, BitVec.getLsbD_not, hk]
    have := h ⟨k, hk⟩
    revert this
    dsimp only
    cases rule.mask.getLsbD k <;> cases id.getLsbD k <;> cases rule.base.getLsbD k <;> simp

/-- The mode a route gives, as the record's mode is chosen (R13). -/
def cancelMode (cancel : Bool) : Mode := if cancel then .cancel else .transparent

theorem routeChoice_eq (settings : Settings) (id : Identity) : routeChoice settings id =
    (((settings.rules.toList.find? fun rule => rule.enabled &&
        decide (∀ k : Fin 16, rule.mask.getLsbD k = true ∨ id.getLsbD k = rule.base.getLsbD k)).map (·.profile)).getD 0,
      ((settings.rules.toList.find? fun rule => rule.enabled &&
        decide (∀ k : Fin 16, rule.mask.getLsbD k = true ∨ id.getLsbD k = rule.base.getLsbD k)).map (·.mode)).getD
          .cancel) := by
  unfold routeChoice
  simp only [ruleMatches_eq]
  cases List.find? _ _ <;> rfl

/-! ## The record enters -/

theorem enter_retireAt (s : State) (pos : Position) (r : Record) : (s.retireAt pos).enter r =
    { s with
      records := s.records.filter (·.position != pos) ++ [r]
      refCounts := ((s.retireAt pos).enter r).refCounts } := by
  rw [← attach_records]
  unfold State.enter State.retireAt
  cases s.recordAt pos <;> rfl

theorem enter_retireAt_refCounts (s : State) (pos : Position) (r : Record) (n : ProfileNumber) :
    ((s.retireAt pos).enter r).refCounts.get n =
      s.refCounts.get n - (if (s.recordAt pos).any (fun r => r.profile == n) then 1 else 0) +
        (if n = r.profile then 1 else 0) := by
  have retired : (s.retireAt pos).refCounts.get n =
      s.refCounts.get n - (if (s.recordAt pos).any (fun r => r.profile == n) then 1 else 0) := by
    unfold State.retireAt
    cases s.recordAt pos with
    | none => rfl
    | some q =>
      dsimp only
      rw [loseReference_get]
      by_cases h : n = q.profile
      · simp [h]
      · simp [h, Ne.symm h]
  unfold State.enter
  rw [gainReference_get, ← retired]
  by_cases h : n = r.profile <;> simp [h]

theorem noiseSeed_eq (id : Identity) : noiseSeed id = if id = 0xACE1 then 1 else id ^^^ 0xACE1 := by
  have h : id ^^^ 0xACE1 = 0 ↔ id = 0xACE1 := BitVec.xor_eq_zero_iff
  unfold noiseSeed
  simp only [h]

/-! ## The checks pass -/

theorem isDuplicate_eq_false (h : ∀ r ∈ s.records, r.identity = id → r.state = .lapsed ∧ r.position = pos) :
    s.isDuplicate id pos = false := by
  unfold State.isDuplicate
  cases hr : s.recordOf id with
  | none => rfl
  | some r =>
    obtain ⟨hm, hi⟩ := recordOf_some hr
    simp [h r hm hi]

theorem isTaken_eq_false (h : ∀ r ∈ s.records, r.position = pos → r.state = .lapsed) : s.isTaken pos = false := by
  unfold State.isTaken
  cases hr : s.recordAt pos with
  | none => rfl
  | some r =>
    obtain ⟨hm, hp⟩ := recordAt_some hr
    simp [h r hm hp]

theorem isFull_eq_false (h : s.records.length < 96 ∨ (s.recordAt pos).isSome = true) : s.isFull pos = false := by
  unfold State.isFull
  rcases h with h | h
  · simp [h]
  · rw [Option.isNone_eq_false_iff.2 h, Bool.and_false]

/-- An ATTACH that passes its checks (R11 to R15). -/
theorem doAttach_of_checked {profile mode : Byte} {number : Option ProfileNumber} {m : Option Mode}
    (hn : parseOptional profile parseProfileNumber = some number) (hm : parseOptional mode parseMode = some m)
    (hdup : s.isDuplicate id pos = false) (htaken : s.isTaken pos = false) (hfull : s.isFull pos = false) :
    doAttach id (BitVec.ofNat 8 pos.val) profile mode s = attachAt id pos (chooseProfile s.settings id number m) s := by
  have hpos : parsePosition (BitVec.ofNat 8 pos.val) = some pos :=
    parsePosition_of_eq (by rw [BitVec.toNat_ofNat]; omega)
  simp only [doAttach, hpos, hn, hm, hdup, htaken, hfull, Bool.false_eq_true, if_false]

/-- The profile and mode that ATTACH's operands and the route rules choose (R13). -/
theorem exists_choice {profile mode : Byte} (hprof : profile.toNat < 8 ∨ profile = 0xFF)
    (hmode : mode = 0x00 ∨ mode = 0x01 ∨ mode = 0xFF) (settings : Settings) (id : Identity) :
    ∃ number m, parseOptional profile parseProfileNumber = some number ∧ parseOptional mode parseMode = some m ∧
      chooseProfile settings id number m =
        (if profile = 0xFF then (routeChoice settings id).1 else Fin.ofNat 8 profile.toNat,
          cancelMode (if mode = 0x00 then true else if mode = 0x01 then false
            else if profile = 0xFF then decide ((routeChoice settings id).2 = .cancel) else true)) := by
  have hroute (m : Mode) : cancelMode (decide (m = .cancel)) = m := by cases m <;> rfl
  rcases hprof with h8 | rfl
  · have hne : profile ≠ 0xFF := ne_notGiven_of_lt (by omega)
    have hnum : Fin.ofNat 8 profile.toNat = (⟨profile.toNat, h8⟩ : ProfileNumber) :=
      Fin.ext (Nat.mod_eq_of_lt h8)
    rw [if_neg hne, if_neg hne, hnum]
    rcases hmode with rfl | rfl | rfl <;>
      exact ⟨_, _, parseOptional_of_some hne (parseProfileNumber_of_eq rfl), rfl, rfl⟩
  · rw [if_pos rfl, if_pos rfl]
    rcases hmode with rfl | rfl | rfl
    · exact ⟨none, _, rfl, rfl, rfl⟩
    · exact ⟨none, _, rfl, rfl, rfl⟩
    · exact ⟨none, _, rfl, rfl, Prod.ext rfl (hroute _).symm⟩

/-- What the claim leaves in a record without windows and unplaced offsets (R15, R21). -/
theorem begun_of_empty {r : Record} (hh : r.held = []) (hu : r.unplaced = []) (p : Profile) (short : Bool) :
    r.begun p short =
      { r with
        held := if decide (1 ≤ p.windowLimit) && !(decide (1 ≤ p.windowLimit) && short) then
          [zeroWindow p.provisionalOffset] else []
        unplaced := if decide (1 ≤ p.windowLimit) && short then [p.provisionalOffset] else []
        alarms := if decide (1 ≤ p.windowLimit) && short then r.alarms ||| 0x8 else r.alarms } := by
  unfold Record.begun
  by_cases h : 1 ≤ p.windowLimit
  · rw [if_pos h, decide_eq_true h]
    cases short with
    | false => exact congrArg (fun offsets => { r with held := [zeroWindow p.provisionalOffset], unplaced := offsets }) hu
    | true =>
      exact congrArg (fun windows =>
        { r with held := windows, unplaced := [p.provisionalOffset], alarms := r.alarms ||| 0x8 }) hh
  · rw [if_neg h, decide_eq_false h]
    exact (congrArg (fun windows => { r with held := windows }) hh).trans
      (congrArg (fun offsets => { r with held := [], unplaced := offsets }) hu)

theorem map_created {rs : List Record} {r : Record} (hne : ∀ q ∈ rs, q.identity ≠ r.identity) (r' : Record) :
    ((rs ++ [r]).map fun q => if q.identity = r.identity then r' else q) = rs ++ [r'] := by
  rw [List.map_append, List.map_singleton, if_pos rfl, List.map_congr_left fun q hq => if_neg (hne q hq), List.map_id']

theorem begunSearch_congr (id : Identity) (p : Profile) {t : State} (hp : t.priorityLane = s.priorityLane)
    (ho : t.ordinaryLane = s.ordinaryLane) (hsl : t.slots = s.slots) :
    (t.begunSearch id p).priorityLane = (s.begunSearch id p).priorityLane ∧
      (t.begunSearch id p).ordinaryLane = (s.begunSearch id p).ordinaryLane ∧
      (t.begunSearch id p).slots = (s.begunSearch id p).slots := by
  unfold State.begunSearch
  split
  · exact request_congr .ordinary id hp ho hsl
  · exact ⟨hp, ho, hsl⟩

/-- A record's state after ATTACH, where cancellation begins (R13 to R15). -/
theorem beginCancel_enter (hs : s.TableSound) (hdup : s.isDuplicate id pos = false) (hfull : s.isFull pos = false)
    {r : Record} (hi : r.identity = id) (hp : r.position = pos) (ha : r.alarms = 0) (p : Profile) :
    ((s.retireAt pos).enter r).beginCancel id p =
      { s with
        records := s.records.filter (·.position != pos) ++ [r.begun p (s.free == 0)]
        refCounts := ((s.retireAt pos).enter r).refCounts
        free := if decide (1 ≤ p.windowLimit) && !s.claimShort p then s.free - 1 else s.free
        waiting := if s.claimShort p then s.waiting ++ [id] else s.waiting
        summary := if s.claimShort p then s.summary ||| 0x10 else s.summary
        priorityLane := (s.begunSearch id p).priorityLane
        ordinaryLane := (s.begunSearch id p).ordinaryLane
        slots := (s.begunSearch id p).slots } := by
  have hs1 : ((s.retireAt pos).enter r).TableSound := attach_tableSound hs hdup hfull hi hp
  have hr : ((s.retireAt pos).enter r).recordOf id = some r := (recordOf_eq_some_iff hs1).2
    ⟨by rw [attach_records]; exact List.mem_append_right _ (List.mem_singleton_self _), hi⟩
  have hne : ∀ q ∈ s.records.filter (·.position != pos), q.identity ≠ r.identity := by
    intro q hq hqi
    obtain ⟨hq, hqp⟩ := List.mem_filter.1 hq
    exact absurd (not_isDuplicate hs hdup hq (hqi.trans hi)).2 (by simpa using hqp)
  have hmap := map_created hne (r.begun p (s.free == 0))
  have henter := enter_retireAt s pos r
  generalize (s.retireAt pos).enter r = s1 at hs1 hr henter ⊢
  rw [beginCancel_eq hs1 hr]
  generalize s1.refCounts = counts at henter ⊢
  subst henter
  obtain ⟨hpri, hord, hslots⟩ := begunSearch_congr id p (s := s)
    (t := { s with records := s.records.filter (·.position != pos) ++ [r], refCounts := counts }) rfl rfl rfl
  rw [hpri, hord, hslots]
  subst hi
  have hflag : r.alarms &&& 0x8 = 0 := by rw [ha]; rfl
  simp only [hmap, hflag, and_true]
  rfl

end Sys2Proof.Machine

open Sys2Proof Sys2Proof.Machine

/-- Settles O29. -/
theorem attachCreates : Obligations.AttachCreates := by
  intro s id pos profile mode hrun hs _ hdup htaken hfull hprof hmode rule number cancel p
  have hdup' := isDuplicate_eq_false hdup
  have hfull' := isFull_eq_false hfull
  obtain ⟨num, m, hn, hm, hchoice⟩ := exists_choice hprof hmode s.settings id
  have hc : chooseProfile s.settings id num m = (number, cancelMode cancel) := by
    rw [hchoice, routeChoice_eq]
  have hact := doAttach_of_checked hn hm hdup' (isTaken_eq_false htaken) hfull'
  rw [hc] at hact
  have hstep := takeCommand_eq (code := 0x01) hrun (act := doAttach id (BitVec.ofNat 8 pos.val) profile mode) hact
  clear_value cancel number
  have hcounts := enter_retireAt_refCounts s pos (newRecord id pos number p (cancelMode cancel))
  rw [← noiseSeed_eq id]
  rcases cancel with _ | _
  · have henter := enter_retireAt s pos (newRecord id pos number p .transparent)
    refine ⟨(s.retireAt pos).enter (newRecord id pos number p .transparent), hstep, ?_, hcounts, ?_⟩
    · rw [henter]; rfl
    · rw [henter]
      exact ⟨rfl, rfl, rfl, rfl, rfl, rfl, rfl⟩
  · have hbegin := beginCancel_enter hs hdup' hfull' (r := newRecord id pos number p .cancel) rfl rfl rfl p
    refine ⟨((s.retireAt pos).enter (newRecord id pos number p .cancel)).beginCancel id p, hstep, ?_⟩
    rw [hbegin]
    refine ⟨?_, hcounts, rfl, rfl, rfl, rfl, rfl, rfl, rfl⟩
    dsimp only
    have hadded : (newRecord id pos number p .cancel).alarms ||| 0x8 = 0x8 :=
      (by decide : (0 : AlarmSet) ||| 0x8 = 0x8)
    rw [begun_of_empty rfl rfl, hadded]
    rfl
end

section
/-! SUPPORT. What grants and releases read of a state, and what a release leaves. -/

namespace Sys2Proof.Machine

variable {s t : State} {id : Identity}

/-! ## What grants read -/

theorem recordOf_eq_of_filter {j : Identity} (hne : j ≠ id)
    (h : t.records.filter (·.identity != id) = s.records.filter (·.identity != id)) : t.recordOf j = s.recordOf j := by
  have key (rs : List Record) : rs.find? (·.identity == j) = (rs.filter (·.identity != id)).find? (·.identity == j) := by
    rw [List.find?_filter]
    congr 1
    funext r
    by_cases hr : r.identity = j
    · simp [hr, hne]
    · simp [hr]
  unfold State.recordOf
  rw [key, key s.records, h]

theorem update_filter_ne (s : State) {id j : Identity} {f : Record → Record} (hf : ∀ r, (f r).identity = r.identity) :
    (s.update j f).records.filter (·.identity != id) =
      (s.records.filter (·.identity != id)).map fun r => if r.identity = j then f r else r := by
  simp only [State.update, List.filter_map]
  congr 1
  apply List.filter_congr
  intro r _
  dsimp only [Function.comp]
  split
  · rw [hf]
  · rfl

theorem update_filter_self (s : State) {id : Identity} {f : Record → Record} (hf : ∀ r, (f r).identity = r.identity) :
    (s.update id f).records.filter (·.identity != id) = s.records.filter (·.identity != id) := by
  rw [update_filter_ne s hf]
  refine (List.map_congr_left fun r hr => ?_).trans (List.map_id _)
  exact if_neg (by simpa using (List.mem_filter.1 hr).2)

/-- Two states whose grants are the same: they agree on the pool, on every record but the one that holds an identity, and
on what that one lacks. -/
structure PoolAgree (id : Identity) (s t : State) : Prop where
  free : t.free = s.free
  waiting : t.waiting = s.waiting
  part : t.part = s.part
  others : t.records.filter (·.identity != id) = s.records.filter (·.identity != id)
  lacks : (t.recordOf id).map (·.unplaced) = (s.recordOf id).map (·.unplaced)

theorem PoolAgree.grantedAs (h : PoolAgree id s t) : t.GrantedAs s id := ⟨h.free, h.waiting, h.part, h.others⟩

theorem PoolAgree.unplaced (h : PoolAgree id s t) (j : Identity) :
    (t.recordOf j).map (·.unplaced) = (s.recordOf j).map (·.unplaced) := by
  by_cases hj : j = id
  · rw [hj, h.lacks]
  · rw [recordOf_eq_of_filter hj h.others]

theorem unplaced_update_self (s : State) {id : Identity} {f : Record → Record} {more : List Nat}
    (hf : ∀ r, (f r).identity = r.identity) (hu : ∀ r, (f r).unplaced = more) :
    ((s.update id f).recordOf id).map (·.unplaced) = ((s.recordOf id).map (·.unplaced)).map fun _ => more := by
  cases h : s.recordOf id with
  | none => rw [recordOf_update s id id hf, h]; rfl
  | some r =>
    rw [recordOf_update_self hf h]
    exact congrArg some (hu r)

theorem PoolAgree.grantHead (h : PoolAgree id s t) (j : Identity) (o : Nat) (more : List Nat) (behind : List Identity) :
    PoolAgree id (s.grantHead j o more behind) (t.grantHead j o more behind) where
  free := congrArg (· - 1) h.free
  waiting := rfl
  part := congrArg (fun p : PartTallies => { p with grants := countUp p.grants }) h.part
  others := by
    refine (update_filter_ne t fun _ => ?_).trans ((congrArg _ h.others).trans (update_filter_ne s fun _ => ?_).symm) <;> rfl
  lacks := by
    by_cases hj : j = id
    · subst hj
      have own (u : State) : ((u.grantHead j o more behind).recordOf j).map (·.unplaced) =
          ((u.recordOf j).map (·.unplaced)).map fun _ => more :=
        unplaced_update_self u (f := fun r => { r with held := insertWindow (zeroWindow o) r.held, unplaced := more })
          (fun _ => rfl) fun _ => rfl
      rw [own, own, h.lacks]
    · have other (u : State) : (u.grantHead j o more behind).recordOf id = u.recordOf id :=
        recordOf_update_other u (Ne.symm hj) fun _ => rfl
      rw [other, other, h.lacks]

/-- Grants read nothing else of a state (R124). -/
theorem PoolAgree.grantUpTo (h : PoolAgree id s t) (n : Nat) : PoolAgree id (s.grantUpTo n) (t.grantUpTo n) := by
  induction n generalizing s t with
  | zero => exact h
  | succ n ih =>
    unfold State.grantUpTo
    rw [h.waiting]
    cases hw : s.waiting with
    | nil => exact h
    | cons j behind =>
      have pass : PoolAgree id { s with waiting := behind } { t with waiting := behind } :=
        ⟨h.free, rfl, h.part, h.others, h.lacks⟩
      dsimp only
      rw [h.unplaced j]
      generalize (s.recordOf j).map (·.unplaced) = u
      rcases u with _ | _ | ⟨o, more⟩
      · exact ih pass
      · exact ih pass
      · exact ih (h.grantHead j o more behind)

theorem PoolAgree.grantAll (h : PoolAgree id s t) : PoolAgree id s.grantAll t.grantAll := by
  unfold State.grantAll
  rw [h.free]
  exact h.grantUpTo _

/-! ## What a release leaves -/

theorem othersKept_grantAll {u : State} (hu : u.TableSound) (h : ∀ q ∈ s.records, q.identity ≠ id → q ∈ u.records) :
    s.OthersKept u.grantAll id := by
  intro q hq hne
  obtain ⟨_, hx, k, rfl⟩ := forall2_exists_right (grantAll_granted hu) (h q hq hne)
  exact ⟨k, hx⟩

theorem mem_update_of_ne {f : Record → Record} {q : Record} (hq : q ∈ s.records) (hne : q.identity ≠ id) :
    q ∈ (s.update id f).records := List.mem_map.2 ⟨q, hq, if_neg hne⟩

theorem released_eq {r : Record} (hr : s.recordOf id = some r) : s.released id = s.releaseAll id := by
  rw [releaseAll_of_some hr]
  unfold State.released
  rw [hr]

/-- The pool, the other records, the summary and the tallies after a release with its grants (R123, R124). -/
structure Released (s t : State) (id : Identity) (r : Record) : Prop where
  others : s.OthersKept t id
  granted : t.GrantedAs (s.released id) id
  waiting : id ∉ t.waiting
  free : s.waiting = [] → t.free = s.free + r.held.length
  summary : t.summary = s.summary
  part : t.part = { s.part with grants := t.part.grants }

theorem Released.congr {r : Record} {u : State} (h : Released s t id r) (hf : u.free = t.free) (hw : u.waiting = t.waiting)
    (hsum : u.summary = t.summary) (hp : u.part = t.part)
    (hrec : u.records.filter (·.identity != id) = t.records.filter (·.identity != id)) : Released s u id r where
  others q hq hne := by
    obtain ⟨k, hk⟩ := h.others q hq hne
    have : q.granted k ∈ u.records.filter (·.identity != id) := by
      rw [hrec]
      exact List.mem_filter.2 ⟨hk, by simpa using hne⟩
    exact ⟨k, (List.mem_filter.1 this).1⟩
  granted := ⟨hf.trans h.granted.1, hw.trans h.granted.2.1, hp.trans h.granted.2.2.1, hrec.trans h.granted.2.2.2⟩
  waiting := hw ▸ h.waiting
  free hs := hf.trans (h.free hs)
  summary := hsum.trans h.summary
  part := by rw [hp]; exact h.part

/-- A release of a record of which something else changed before (R123). -/
theorem update_releaseAll_released (hs : s.TableSound) {r : Record} (hr : s.recordOf id = some r) {f : Record → Record}
    (hid : ∀ x, (f x).identity = x.identity) (hpos : ∀ x, (f x).position = x.position) (hheld : (f r).held = r.held) :
    Released s ((s.update id f).releaseAll id) id r := by
  have hu : (s.update id f).recordOf id = some (f r) := recordOf_update_self hid hr
  have ht : (s.update id f).TableSound :=
    tableSound_of_keys (by simp [State.update, Function.comp_def, apply_ite, hid])
      (by simp [State.update, Function.comp_def, apply_ite, hpos]) hs
  have hrel : (s.update id f).releaseAll id = State.grantAll ((s.update id f).returnWindows id) := rfl
  have hrw : (s.update id f).returnWindows id =
      { s with
        records := ((s.update id f).update id Record.emptied).records
        free := s.free + r.held.length
        waiting := s.waiting.filter (· != id) } := by
    simp only [State.returnWindows, hu, hheld]
    rfl
  refine ⟨?_, ?_, ?_, ?_, ?_, ?_⟩
  · refine othersKept_grantAll ((returnWindows_poolStep _ _).tableSound ht) fun q hq hne => ?_
    rw [hrw]
    exact mem_update_of_ne (mem_update_of_ne hq hne) hne
  · rw [released_eq hr]
    refine PoolAgree.grantedAs (PoolAgree.grantAll (s := s.returnWindows id) ⟨?_, ?_, ?_, ?_, ?_⟩)
    · simp only [State.returnWindows, hr, hu, hheld]
      rfl
    · simp only [State.returnWindows, hr, hu]
      rfl
    · simp only [State.returnWindows, hr, hu]
      rfl
    · rw [returnWindows_records, returnWindows_records, update_filter_self _ (f := Record.emptied) fun _ => rfl,
        update_filter_self _ (f := Record.emptied) fun _ => rfl, update_filter_self _ hid]
    · simp only [State.returnWindows, hr, hu]
      refine (unplaced_update_self (s.update id f) (f := Record.emptied) (fun _ => rfl) fun _ => rfl).trans
        (Eq.trans ?_ (unplaced_update_self s (f := Record.emptied) (fun _ => rfl) fun _ => rfl).symm)
      rw [hu, hr]
      rfl
  · intro hmem
    have := grantAll_waiting_subset _ hmem
    rw [hrw] at this
    simp at this
  · intro hw
    rw [hrel, grantAll_eq_self (.inr (by rw [hrw]; simp [hw])), hrw]
  · rw [hrel, grantAll_summary, hrw]
  · rw [hrel, grantAll_part, hrw]

/-- A release with its grants (R123). -/
theorem releaseAll_released (hs : s.TableSound) {r : Record} (hr : s.recordOf id = some r) :
    Released s (s.releaseAll id) id r := by
  have h := update_releaseAll_released hs hr (f := fun x => x) (fun _ => rfl) (fun _ => rfl) rfl
  rwa [update_eq_self fun _ _ _ => rfl] at h

theorem detachRecord_released (hs : s.TableSound) {r : Record} (hr : s.recordOf r.identity = some r) :
    Released s (s.detachRecord r) r.identity r := by
  refine (releaseAll_released hs hr).congr ?_ ?_ ?_ ?_ ?_
  · exact cancelSearch_free _ _
  · exact cancelSearch_waiting _ _
  · exact cancelSearch_summary _ _
  · exact cancelSearch_part _ _
  · rw [detach_records, List.filter_filter]
    simp only [Bool.and_self]

/-- The position of a detached record is free (R16). -/
theorem detachRecord_recordAt (hs : s.TableSound) {r : Record} (hr : s.recordOf r.identity = some r) :
    (s.detachRecord r).recordAt r.position = none := by
  have hP := releaseAll_poolStep s r.identity
  obtain ⟨x, hx, hc⟩ := hP.recordOf hr
  rw [recordAt_eq_none_iff, detach_records]
  intro q hq hpos
  obtain ⟨hq, hne⟩ := List.mem_filter.1 hq
  have := eq_of_position_eq (hP.tableSound hs) hq (recordOf_some hx).1 (hpos.trans (poolChange_position hc).symm)
  rw [this, (recordOf_some hx).2] at hne
  simp at hne

end Sys2Proof.Machine

open Sys2Proof Sys2Proof.Machine

/-- Settles O30. -/
theorem detachRemoves : Obligations.DetachRemoves := by
  intro s id hrun hs
  refine ⟨fun hn => takeCommand_eq hrun ?_, fun r hr => ⟨s.detachRecord r, takeCommand_eq hrun ?_, ?_⟩⟩
  · simp only [doDetach, hn]
    rfl
  · have hflag : indicateIf (r.state == .lapsed) .wasLapsed = if r.state = .lapsed then 0x02 else 0x00 := by
      by_cases h : r.state = .lapsed
      · rw [h]; rfl
      · rw [beq_false_of_ne h, if_neg h]; rfl
    simp only [doDetach, hr]
    rw [hflag]
  · obtain ⟨hmem, rfl⟩ := recordOf_some hr
    have hP := releaseAll_poolStep s r.identity
    have hrel := detachRecord_released hs hr
    refine ⟨?_, hrel.others, hrel.granted, detachRecord_recordAt hs hr, fun n => ?_, hrel.waiting,
      searchStatus_cancelSearch _ _, cancelSearch_congr _ hP.priorityLane hP.ordinaryLane hP.slots, hrel.free, hrel.summary,
      detach_apart s r, hrel.part⟩
    · rw [detach_records, ← hP.identities, List.filter_map]
      rfl
    · rw [detach_refCounts]
      split <;> rfl
end

section
/-! SUPPORT. The profile change of MODIFY (O32). -/

namespace Sys2Proof.Machine

variable {s t u : State} {id : Identity} {r : Record}

/-! ## The profile change -/

/-- A record under its new profile, trimmed to the limit (R19). -/
def retrimmedRecord (p : Profile) (number : ProfileNumber) (r : Record) : Record :=
  trimRecord p.windowLimit (reprofiled p number r)

/-- The profile change before the grants for the windows it releases (R19, R123). -/
def State.retrimmed (s : State) (r : Record) (number : ProfileNumber) : State :=
  let p := s.settings.profiles.get number
  { s.update r.identity (retrimmedRecord p number) with
    refCounts := ((s.loseReference r.profile).gainReference number).refCounts
    free := s.free + (r.held.length - p.windowLimit)
    waiting :=
      if r.unplaced.take (p.windowLimit - r.held.length) = [] then s.waiting.filter (· != r.identity) else s.waiting }

theorem trimmed_free (s : State) (r : Record) (limit : Nat) : (s.trimmed r limit).free = s.free := by
  unfold State.trimmed
  split <;> rfl

theorem retrimmed_eq (s : State) (r : Record) (number : ProfileNumber) :
    { State.trimmed (((s.loseReference r.profile).gainReference number).update r.identity
        (reprofiled (s.settings.profiles.get number) number)) r (s.settings.profiles.get number).windowLimit with
      free := s.free + (r.held.length - (s.settings.profiles.get number).windowLimit) } = s.retrimmed r number := by
  unfold State.trimmed State.retrimmed
  rw [update_update _ _ (f := reprofiled _ number) _ fun _ => rfl]
  have htrim (limit : Nat) : (trimRecord limit r).unplaced = r.unplaced.take (limit - r.held.length) := rfl
  rw [htrim]
  by_cases hu : r.unplaced.take ((s.settings.profiles.get number).windowLimit - r.held.length) = []
  · simp only [if_pos hu]
    rfl
  · simp only [if_neg hu]
    rfl

theorem changeProfile_retrimmed (s : State) {number : ProfileNumber} (h : number ≠ r.profile) :
    s.changeProfile r number =
      if r.held.length ≤ (s.settings.profiles.get number).windowLimit then s.retrimmed r number
      else (s.retrimmed r number).grantAll := by
  rw [changeProfile_eq s r h, trim_eq]
  have hfree := trimmed_free (((s.loseReference r.profile).gainReference number).update r.identity
    (reprofiled (s.settings.profiles.get number) number)) r (s.settings.profiles.get number).windowLimit
  have hself := retrimmed_eq s r number
  generalize State.trimmed _ r _ = u at hfree hself ⊢
  have hstart : u.free = s.free := hfree
  rw [hstart, ← hself]
  by_cases hle : r.held.length ≤ (s.settings.profiles.get number).windowLimit
  · rw [if_pos (Nat.sub_eq_zero_of_le hle), if_pos hle, Nat.sub_eq_zero_of_le hle, Nat.add_zero, ← hstart]
  · rw [if_neg (by omega), if_neg hle]

theorem retrimmed_tableSound (hs : s.TableSound) (r : Record) (number : ProfileNumber) :
    (s.retrimmed r number).TableSound :=
  tableSound_of_keys (s := s) (by simp [State.retrimmed, State.update, Function.comp_def, apply_ite, retrimmedRecord,
      trimRecord, reprofiled, clampGains])
    (by simp [State.retrimmed, State.update, Function.comp_def, apply_ite, retrimmedRecord, trimRecord, reprofiled,
      clampGains]) hs

theorem recordOf_retrimmed (hr : s.recordOf id = some r) (number : ProfileNumber) :
    (s.retrimmed r number).recordOf id = some (retrimmedRecord (s.settings.profiles.get number) number r) := by
  obtain ⟨-, rfl⟩ := recordOf_some hr
  exact recordOf_update_self (f := retrimmedRecord (s.settings.profiles.get number) number) (fun _ => rfl) hr

/-- The record after its profile change: the grants that follow are not for it (R19). -/
theorem recordOf_changeProfile_eq (hs : s.TableSound) (hr : s.recordOf id = some r) {number : ProfileNumber}
    (h : number ≠ r.profile) :
    (s.changeProfile r number).recordOf id = some (retrimmedRecord (s.settings.profiles.get number) number r) := by
  rw [changeProfile_retrimmed s h]
  split
  · exact recordOf_retrimmed hr number
  · rename_i hle
    refine recordOf_grantAll_of_placed (retrimmed_tableSound hs r number) (recordOf_retrimmed hr number) ?_
    change r.unplaced.take (_ - r.held.length) = []
    rw [Nat.sub_eq_zero_of_le (by omega), List.take_zero]

theorem changeProfile_others (hs : s.TableSound) (hr : s.recordOf id = some r) {number : ProfileNumber}
    (h : number ≠ r.profile) : s.OthersKept (s.changeProfile r number) id := by
  obtain ⟨-, rfl⟩ := recordOf_some hr
  have hmem : ∀ q ∈ s.records, q.identity ≠ r.identity → q ∈ (s.retrimmed r number).records :=
    fun q hq hne => mem_update_of_ne (f := retrimmedRecord _ number) hq hne
  rw [changeProfile_retrimmed s h]
  split
  · exact fun q hq hne => ⟨0, hmem q hq hne⟩
  · exact othersKept_grantAll (retrimmed_tableSound hs r number) hmem

/-- A profile change but for the table and the reference counts: the grants for the windows released (R19, R123). -/
theorem changeProfile_pool (s : State) {number : ProfileNumber} (h : number ≠ r.profile) :
    PoolStep (s.retrimmed r number) (s.changeProfile r number) := by
  rw [changeProfile_retrimmed s h]
  split
  · exact .refl _
  · exact grantAll_poolStep _

theorem changeProfile_summary (s : State) (r : Record) (number : ProfileNumber) :
    (s.changeProfile r number).summary = s.summary := by
  by_cases h : number = r.profile
  · rw [State.changeProfile, if_pos h]
  · rw [changeProfile_retrimmed s h]
    split
    · rfl
    · exact grantAll_summary _

/-! ## The operands -/

theorem exists_freezeChange {b : Byte} (h : b = 0x00 ∨ b = 0x01 ∨ b = 0xFF) :
    ∃ f, parseOptional b parseBool = some f ∧
      ∀ old : Bool, f.getD old = if b = 0xFF then old else decide (b = 0x01) := by
  rcases h with rfl | rfl | rfl <;> exact ⟨_, rfl, fun _ => rfl⟩

theorem parseBool_gainReset {b : Byte} (h : b = 0x00 ∨ b = 0x01) :
    parseBool b = some (decide (b = 0x01)) := by
  rcases h with rfl | rfl <;> rfl

theorem exists_padChange {w : BitVec 16} (h : w = 0x0000 ∨ w = 0xFFFF ∨ (1024 ≤ w.toNat ∧ w.toNat ≤ 16383)) :
    ∃ c, parsePad w = some c ∧
      ∀ old, changePad c old = if w = 0xFFFF then old else if w = 0x0000 then none else some w.toNat := by
  unfold parsePad
  by_cases hf : w = 0xFFFF
  · rw [if_pos hf]
    exact ⟨_, rfl, fun _ => by rw [if_pos hf]; rfl⟩
  · by_cases h0 : w = 0x0000
    · rw [if_neg hf, if_pos h0]
      exact ⟨_, rfl, fun _ => by rw [if_neg hf, if_pos h0]; rfl⟩
    · have hrange : 1024 ≤ w.toNat ∧ w.toNat ≤ 16383 := by tauto
      rw [if_neg hf, if_neg h0, if_pos hrange]
      exact ⟨_, rfl, fun _ => by rw [if_neg hf, if_neg h0]; rfl⟩

theorem changeProfile_same (s : State) {number : ProfileNumber} (h : number = r.profile) :
    s.changeProfile r number = s := by
  rw [State.changeProfile, if_pos h]

theorem exists_profileChange {b : Byte} {number : ProfileNumber}
    (h : b = 0xFF ∧ number = r.profile ∨ b.toNat = number.val) :
    ∃ n, parseOptional b parseProfileNumber = some n ∧ n.getD r.profile = number ∧
      ∀ s : State, s.reprofile r n = s.changeProfile r number := by
  rcases h with ⟨rfl, rfl⟩ | h
  · exact ⟨none, rfl, rfl, fun s => (changeProfile_same s rfl).symm⟩
  · exact ⟨some number, parseOptional_of_some (ne_notGiven_of_lt (by omega)) (parseProfileNumber_of_eq h), rfl,
      fun _ => rfl⟩

/-- A MODIFY without a mode, its operands read (R18). -/
theorem doModify_levels {freeze profile gainReset : Byte} {padIn padOut : BitVec 16} {number : ProfileNumber}
    {n : Option ProfileNumber} {f : Option Bool} {pin pout : PadChange} {g : Bool} (hr : s.recordOf id = some r)
    (hl : r.state ≠ .lapsed) (hn : parseOptional profile parseProfileNumber = some n) (hnum : n.getD r.profile = number)
    (hchange : s.reprofile r n = s.changeProfile r number)
    (h : ModifyReads 0xFF freeze padIn padOut gainReset none f pin pout g) :
    doModify id 0xFF freeze profile padIn padOut gainReset s =
      { state := (s.changeProfile r number).update id
          (changeLevels (s.settings.profiles.get number) g pin pout f)
        status := .ok
        results := [0x00] } := by
  obtain ⟨-, rfl⟩ := recordOf_some hr
  rw [doModify_of_record hn h hr hl, modifyRecord_eq, hchange, hnum]
  simp only [changeMode_none]
  rfl

/-- The gain reset, the pad overrides and freeze, as the operands give them (R20, R22). -/
theorem changeLevels_eq {freeze gainReset : Byte} {padIn padOut : BitVec 16} {f : Option Bool} {pin pout : PadChange}
    (hf : ∀ old : Bool, f.getD old = if freeze = 0xFF then old else decide (freeze = 0x01))
    (hpin : ∀ old, changePad pin old = if padIn = 0xFFFF then old else if padIn = 0x0000 then none else some padIn.toNat)
    (hpout : ∀ old,
      changePad pout old = if padOut = 0xFFFF then old else if padOut = 0x0000 then none else some padOut.toNat)
    (p : Profile) (q : Record) : changeLevels p (decide (gainReset = 0x01)) pin pout f q =
      { q with
        gainIn := if gainReset = 0x01 then within p.gmin p.gmax 4096 else q.gainIn
        gainOut := if gainReset = 0x01 then within p.gmin p.gmax 4096 else q.gainOut
        padIn := if padIn = 0xFFFF then q.padIn else if padIn = 0x0000 then none else some padIn.toNat
        padOut := if padOut = 0xFFFF then q.padOut else if padOut = 0x0000 then none else some padOut.toNat
        freeze := if freeze = 0xFF then q.freeze else decide (freeze = 0x01) } := by
  simp only [changeLevels, hf, hpin, hpout, decide_eq_true_eq]
  rfl

/-- A record that keeps some windows and offsets. -/
def Record.keeping (held : List Window) (unplaced : List Nat) (q : Record) : Record :=
  { q with held := held, unplaced := unplaced }

theorem update_keeping_self (hs : s.TableSound) (hr : s.recordOf id = some r) :
    s.update id (Record.keeping r.held r.unplaced) = s :=
  update_eq_self fun q hq hi => by
    rw [eq_of_identity_eq hs hq (recordOf_some hr).1 (hi.trans (recordOf_some hr).2.symm)]
    rfl

/-- The pool of a profile change, from the windows and offsets that the record keeps (R19, R123). -/
theorem retrimmed_agree (hr : s.recordOf id = some r) (number : ProfileNumber) :
    PoolAgree id
      { s.update id (Record.keeping (r.held.take (s.settings.profiles.get number).windowLimit)
          (r.unplaced.take ((s.settings.profiles.get number).windowLimit - r.held.length))) with
        free := (s.retrimmed r number).free
        waiting := (s.retrimmed r number).waiting }
      (s.retrimmed r number) := by
  have hown := recordOf_retrimmed hr number
  have hid : ∀ q : Record, (q.keeping (r.held.take (s.settings.profiles.get number).windowLimit)
      (r.unplaced.take ((s.settings.profiles.get number).windowLimit - r.held.length))).identity = q.identity :=
    fun _ => rfl
  refine ⟨rfl, rfl, rfl, ?_, ?_⟩
  · obtain ⟨-, rfl⟩ := recordOf_some hr
    exact (update_filter_self s (f := retrimmedRecord _ number) fun _ => rfl).trans (update_filter_self s hid).symm
  · rw [hown]
    exact (congrArg (Option.map fun x : Record => x.unplaced) (recordOf_update_self hid hr)).symm

theorem changeProfile_of_not_waiting (s : State) {number : ProfileNumber} (h : number ≠ r.profile)
    (hw : s.waiting = []) : s.changeProfile r number = s.retrimmed r number ∧ (s.retrimmed r number).waiting = [] := by
  have hwait : (s.retrimmed r number).waiting = [] := by simp [State.retrimmed, hw]
  rw [changeProfile_retrimmed s h]
  split
  · exact ⟨rfl, hwait⟩
  · exact ⟨grantAll_eq_self (.inr hwait), hwait⟩

theorem changeProfile_apart (s : State) {number : ProfileNumber} (h : number ≠ r.profile) :
    State.SameApart { s with refCounts := (s.changeProfile r number).refCounts } (s.changeProfile r number) := by
  have hpool := changeProfile_pool s h
  rw [sameApart_refCounts hpool.apart]
  exact sameApart_trans (t := s.retrimmed r number) rfl hpool.apart

/-- The levels of a record leave the pool, and what a pool's grants read, as they are. -/
theorem update_othersKept (h : s.OthersKept t id) (f : Record → Record) : s.OthersKept (t.update id f) id :=
  fun q hq hne => by
    obtain ⟨k, hk⟩ := h q hq hne
    exact ⟨k, mem_update_of_ne hk hne⟩

theorem update_grantedAs {f : Record → Record} (hf : ∀ x, (f x).identity = x.identity) (h : t.GrantedAs u id) :
    (t.update id f).GrantedAs u id := by
  obtain ⟨hfree, hwaiting, hpart, hothers⟩ := h
  exact ⟨hfree, hwaiting, hpart, (update_filter_self t hf).trans hothers⟩

end Sys2Proof.Machine

open Sys2Proof Sys2Proof.Machine

/-- Settles O32. -/
theorem modifyChanges : Obligations.ModifyChanges := by
  intro s id r freeze profile padIn padOut gainReset number hrun hs hr hl hfreeze hgain hpin hpout hprof p gain pad held
    unplaced trimmed
  obtain ⟨n, hn, hnum, hchange⟩ := exists_profileChange (r := r) hprof
  obtain ⟨f, hf, hfd⟩ := exists_freezeChange hfreeze
  obtain ⟨pin, hpi, hpid⟩ := exists_padChange hpin
  obtain ⟨pout, hpo, hpod⟩ := exists_padChange hpout
  have hact := doModify_levels hr hl hn hnum (hchange s) ⟨rfl, hf, hpi, hpo, parseBool_gainReset hgain⟩
  have hid : ∀ x : Record, (changeLevels p (decide (gainReset = 0x01)) pin pout f x).identity = x.identity := fun _ => rfl
  refine ⟨(s.changeProfile r number).update id (changeLevels p (decide (gainReset = 0x01)) pin pout f),
    takeCommand_eq hrun hact, ?_⟩
  by_cases h : number = r.profile
  · subst h
    have hrec := recordOf_update_self hid hr
    rw [changeLevels_eq hfd hpid hpod] at hrec
    have hheld : held = r.held := if_pos rfl
    have hunplaced : unplaced = r.unplaced := if_pos rfl
    have hrecords := congrArg State.records (update_keeping_self hs hr)
    rw [← hheld, ← hunplaced] at hrecords
    have hfree : s.free + (r.held.length - held.length) = s.free := by rw [hheld, Nat.sub_self, Nat.add_zero]
    have htrimmed : trimmed = { s with records := (s.update id (Record.keeping held unplaced)).records } := by
      simp only [trimmed, hfree, ne_eq, not_true, false_and, if_false]
      rfl
    rw [hrecords] at htrimmed
    rw [changeProfile_same s rfl]
    refine ⟨hrec.trans (congrArg some ?_), update_othersKept (fun q hq _ => ⟨0, hq⟩) _, update_grantedAs hid ?_, fun n => ?_,
      fun hw => ⟨?_, hw⟩, rfl, rfl, rfl, rfl, rfl, rfl⟩
    · simp only [gain, pad, held, unplaced, if_true]
    · rw [if_pos (congrArg List.length hheld), htrimmed]
      exact ⟨rfl, rfl, rfl, rfl⟩
    · rw [if_pos rfl]
      rfl
    · exact hfree.symm
  · have hrec := recordOf_update_self hid (recordOf_changeProfile_eq hs hr h)
    rw [changeLevels_eq hfd hpid hpod] at hrec
    have hpool := changeProfile_pool s h
    refine ⟨hrec.trans (congrArg some ?_), update_othersKept (changeProfile_others hs hr h) _, update_grantedAs hid ?_,
      fun n => ?_, fun hw => ?_, hpool.priorityLane, hpool.ordinaryLane, hpool.slots, changeProfile_summary s r number,
      ?_, hpool.part⟩
    · simp only [gain, pad, held, unplaced, if_neg h]
      rfl
    · have hagree := retrimmed_agree hr number
      have hheld : held = r.held.take p.windowLimit := if_neg h
      have hunplaced : unplaced = r.unplaced.take (p.windowLimit - r.held.length) := if_neg h
      have hlen : held.length = min p.windowLimit r.held.length := by rw [hheld, List.length_take]
      have htrimmed : trimmed = { s.update id (Record.keeping held unplaced) with
          free := (s.retrimmed r number).free, waiting := (s.retrimmed r number).waiting } := by
        obtain ⟨-, rfl⟩ := recordOf_some hr
        have hfree : r.held.length - held.length = r.held.length - p.windowLimit := by omega
        simp only [trimmed, hfree, ne_eq, h, not_false_eq_true, true_and, hunplaced]
        rfl
      rw [← hheld, ← hunplaced, ← htrimmed] at hagree
      rw [changeProfile_retrimmed s h]
      by_cases hle : r.held.length ≤ p.windowLimit
      · rw [if_pos hle, if_pos (by omega)]
        exact hagree.grantedAs
      · rw [if_neg hle, if_neg (by omega)]
        exact hagree.grantAll.grantedAs
    · change (s.changeProfile r number).refCounts.get n = _
      rw [if_neg h, sameApart_refCounts hpool.apart]
      change ((s.loseReference r.profile).gainReference number).refCounts.get n = _
      rw [gainReference_get, loseReference_get]
      by_cases hn : n = number
      · have hne : n ≠ r.profile := fun he => h (hn ▸ he)
        rw [if_pos hn, if_pos hn, if_neg hne]
      · rw [if_neg hn, if_neg hn]
    · obtain ⟨heq, hwait⟩ := changeProfile_of_not_waiting s h hw
      change (s.changeProfile r number).free = _ ∧ (s.changeProfile r number).waiting = []
      rw [heq]
      refine ⟨?_, hwait⟩
      have hlen : held.length = min p.windowLimit r.held.length := by
        rw [show held = r.held.take p.windowLimit from if_neg h, List.length_take]
      change s.free + (r.held.length - p.windowLimit) = _
      omega
    · exact sameApart_trans (changeProfile_apart s h) (update_sameApart _ _ _)
end

section
/-! SUPPORT. The mode change of MODIFY (O33), and what it owes to the port: nothing. -/

namespace Sys2Proof.Machine

variable {s : State} {id : Identity} {r : Record}

/-! ## The port apart -/

/-- A state with another port. -/
def State.withPort (p : Port) (s : State) : State := { s with port := p }

theorem withPort_update (p : Port) (s : State) (id : Identity) (f : Record → Record) :
    (s.withPort p).update id f = (s.update id f).withPort p := rfl

theorem withPort_request (p : Port) (s : State) (l : Lane) (id : Identity) :
    (s.withPort p).request l id = (s.request l id).withPort p := by
  obtain ⟨h1, h2, h3⟩ := request_congr l id (s := s) (t := s.withPort p) rfl rfl rfl
  refine (request_eq (s.withPort p) l id).trans ?_
  rw [h1, h2, h3]
  exact congrArg (State.withPort p) (request_eq s l id).symm

theorem withPort_cancelSearch (p : Port) (s : State) (id : Identity) :
    (s.withPort p).cancelSearch id = (s.cancelSearch id).withPort p := by
  obtain ⟨h1, h2, h3⟩ := cancelSearch_congr id (s := s) (t := s.withPort p) rfl rfl rfl
  refine (cancelSearch_eq (s.withPort p) id).trans ?_
  rw [h1, h2, h3]
  exact congrArg (State.withPort p) (cancelSearch_eq s id).symm

theorem withPort_raiseAlarm (p : Port) (s : State) (id : Identity) (k : Alarm) :
    (s.withPort p).raiseAlarm id k = (s.raiseAlarm id k).withPort p := by
  unfold State.raiseAlarm
  rw [show (s.withPort p).recordOf id = s.recordOf id from rfl]
  split
  · split <;> rfl
  · rfl

theorem withPort_grantUpTo (p : Port) (n : Nat) (s : State) : (s.withPort p).grantUpTo n = (s.grantUpTo n).withPort p := by
  induction n generalizing s with
  | zero => rfl
  | succ n ih =>
    unfold State.grantUpTo
    rw [show (s.withPort p).waiting = s.waiting from rfl]
    cases s.waiting with
    | nil => rfl
    | cons j behind =>
      dsimp only
      rw [show (s.withPort p).recordOf j = s.recordOf j from rfl]
      generalize (s.recordOf j).map (·.unplaced) = u
      rcases u with _ | _ | ⟨o, more⟩
      · exact ih { s with waiting := behind }
      · exact ih { s with waiting := behind }
      · exact ih (s.grantHead j o more behind)

theorem withPort_releaseAll (p : Port) (s : State) (id : Identity) :
    (s.withPort p).releaseAll id = (s.releaseAll id).withPort p := by
  have h : (s.withPort p).returnWindows id = (s.returnWindows id).withPort p := by
    unfold State.returnWindows
    rw [show (s.withPort p).recordOf id = s.recordOf id from rfl]
    split <;> rfl
  unfold State.releaseAll
  rw [h]
  exact withPort_grantUpTo p _ _

theorem withPort_claimProvisional (p : Port) (s : State) (id : Identity) (o : Nat) :
    (s.withPort p).claimProvisional id o = (s.claimProvisional id o).withPort p := by
  unfold State.claimProvisional
  rw [show (s.withPort p).free = s.free from rfl]
  split
  · exact withPort_raiseAlarm p { s.update id (Record.lacking [o]) with waiting := s.waiting ++ [id] } id .windowShort
  · rfl

theorem withPort_beginCancel (p : Port) (s : State) (id : Identity) (q : Profile) :
    (s.withPort p).beginCancel id q = (s.beginCancel id q).withPort p := by
  unfold State.beginCancel
  rw [withPort_claimProvisional]
  split
  · dsimp only
    split
    · exact withPort_request p _ _ _
    · rfl
  · rfl

/-- The mode change reads and writes nothing of the port (R21). -/
theorem withPort_changeMode (p : Port) (s : State) (id : Identity) (m : Option Mode) :
    (s.withPort p).changeMode id m = ((s.changeMode id m).1.withPort p, (s.changeMode id m).2) := by
  have htransparent : (s.withPort p).makeTransparent id = (s.makeTransparent id).withPort p := by
    unfold State.makeTransparent
    rw [withPort_update, withPort_releaseAll, withPort_cancelSearch]
  have hcancel (q : Profile) : (s.withPort p).makeCancel id q = (s.makeCancel id q).withPort p := by
    unfold State.makeCancel
    rw [withPort_update, withPort_beginCancel]
  unfold State.changeMode
  rw [show (s.withPort p).recordOf id = s.recordOf id from rfl, htransparent]
  split
  · split <;> rfl
  · rw [show (s.withPort p).profileOf = s.profileOf from rfl, hcancel]
    split <;> rfl
  · rfl

theorem changeMode_port (s : State) (id : Identity) (m : Option Mode) : (s.changeMode id m).1.port = s.port :=
  congrArg (fun x : State × Bool => x.1.port) (withPort_changeMode s.port s id m)

/-! ## The mode alone -/

/-- A MODIFY of the mode and of nothing else (R18, R21). -/
theorem doModify_mode {mode : Byte} {m : Mode} (hr : s.recordOf id = some r) (hl : r.state ≠ .lapsed)
    (hm : parseOptional mode parseMode = some (some m)) :
    doModify id mode 0xFF 0xFF 0xFFFF 0xFFFF 0x00 s =
      { state := (s.changeMode id (some m)).1, status := .ok
        results := [indicateIf (s.changeMode id (some m)).2 .windowShort] } := by
  obtain ⟨-, rfl⟩ := recordOf_some hr
  rw [doModify_of_record (number := none) rfl ⟨hm, rfl, rfl, rfl, rfl⟩ hr hl, modifyRecord_eq]
  simp only [State.reprofile]
  rw [update_eq_self (f := changeLevels _ false .keep .keep none) fun q _ _ => changeLevels_notGiven _ q]

theorem changeMode_cancel (hr : s.recordOf id = some r) : s.changeMode id (some .cancel) =
    if r.state = .transparent then (s.makeCancel id (s.profileOf r), s.claimShort (s.profileOf r)) else (s, false) := by
  simp only [State.changeMode, hr]

theorem changeMode_transparent (hr : s.recordOf id = some r) : s.changeMode id (some .transparent) =
    if r.state = .transparent ∨ r.state = .lapsed then (s, false) else (s.makeTransparent id, false) := by
  simp only [State.changeMode, hr]

/-! ## To TRANSPARENT -/

theorem transparentRecord_tableSound (hs : s.TableSound) (id : Identity) :
    (s.update id transparentRecord).TableSound :=
  tableSound_of_keys (by simp [State.update, Function.comp_def, apply_ite, transparentRecord])
    (by simp [State.update, Function.comp_def, apply_ite, transparentRecord]) hs

theorem makeTransparent_released (hs : s.TableSound) (hr : s.recordOf id = some r) :
    Released s (s.makeTransparent id) id r :=
  (update_releaseAll_released hs hr (f := transparentRecord) (fun _ => rfl) (fun _ => rfl) rfl).congr
    (cancelSearch_free _ _) (cancelSearch_waiting _ _) (cancelSearch_summary _ _) (cancelSearch_part _ _)
    (by rw [State.makeTransparent, cancelSearch_records])

theorem recordOf_makeTransparent (hs : s.TableSound) (hr : s.recordOf id = some r) :
    (s.makeTransparent id).recordOf id = some (transparentRecord r).emptied := by
  unfold State.makeTransparent
  rw [recordOf_congr (cancelSearch_records _ _)]
  exact recordOf_releaseAll (transparentRecord_tableSound hs id)
    (recordOf_update_self (f := transparentRecord) (fun _ => rfl) hr)

theorem makeTransparent_searchDropped (s : State) (id : Identity) : s.SearchDropped (s.makeTransparent id) id :=
  have hP := releaseAll_poolStep (s.update id transparentRecord) id
  cancelSearch_congr id (s := s) hP.priorityLane hP.ordinaryLane hP.slots

theorem makeTransparent_apart (s : State) (id : Identity) : s.SameApart (s.makeTransparent id) :=
  sameApart_trans (update_sameApart s id transparentRecord)
    (sameApart_trans (releaseAll_poolStep _ _).apart (cancelSearch_sameApart _ _))

/-! ## To CANCEL -/

theorem makeCancel_eq (hs : s.TableSound) (hr : s.recordOf id = some r) (p : Profile) :
    s.makeCancel id p =
      { s with
        records := s.records.map fun q => if q.identity = id then (settlingRecord r).begun p (s.free == 0) else q
        free := if decide (1 ≤ p.windowLimit) && !s.claimShort p then s.free - 1 else s.free
        waiting := if s.claimShort p then s.waiting ++ [id] else s.waiting
        summary := if s.claimShort p = true ∧ r.alarms &&& 0x8 = 0 then s.summary ||| 0x10 else s.summary
        priorityLane := (s.begunSearch id p).priorityLane
        ordinaryLane := (s.begunSearch id p).ordinaryLane
        slots := (s.begunSearch id p).slots } := by
  have ht : (s.update id settlingRecord).TableSound :=
    tableSound_of_keys (by simp [State.update, Function.comp_def, apply_ite, settlingRecord])
      (by simp [State.update, Function.comp_def, apply_ite, settlingRecord]) hs
  have hrecs := congrArg State.records (update_update s id (f := settlingRecord)
    (fun _ => (settlingRecord r).begun p (s.free == 0)) fun _ => rfl)
  obtain ⟨hpri, hord, hslots⟩ := begunSearch_congr id p (s := s) (t := s.update id settlingRecord) rfl rfl rfl
  unfold State.makeCancel
  refine (beginCancel_eq ht (recordOf_update_self (f := settlingRecord) (fun _ => rfl) hr) p).trans ?_
  rw [hpri, hord, hslots]
  exact congrArg (fun rs => { s with
    records := rs
    free := if decide (1 ≤ p.windowLimit) && !s.claimShort p then s.free - 1 else s.free
    waiting := if s.claimShort p then s.waiting ++ [id] else s.waiting
    summary := if s.claimShort p = true ∧ r.alarms &&& 0x8 = 0 then s.summary ||| 0x10 else s.summary
    priorityLane := (s.begunSearch id p).priorityLane
    ordinaryLane := (s.begunSearch id p).ordinaryLane
    slots := (s.begunSearch id p).slots }) hrecs

/-! ## The mode with other changes -/

/-- A port after a reply (R176, R178). -/
def answered (port : Port) (code : Byte) (status : Status) (results : List Byte) : Port :=
  if port.address = 15 then port else { port with reply := some (replyFrame port.address code status results) }

theorem respond_eq (code : Byte) (a : Answer) :
    respond code a = a.state.withPort (answered a.state.port code a.status a.results) := by
  unfold respond answered
  split <;> rfl

/-- The reply that a second command leaves does not depend on the first one's (R178). -/
theorem answered_answered (port : Port) (c d : Byte) (st su : Status) (rs ss : List Byte) :
    answered (answered port c st rs) d su ss = answered port d su ss := by
  by_cases h : port.address = 15
  · rw [show answered port c st rs = port from if_pos h]
  · rw [show answered port c st rs = { port with reply := some (replyFrame port.address c st rs) } from if_neg h]
    exact (if_neg h).trans (if_neg h).symm

/-- The table, the pool and the settings as a MODIFY of everything but the mode leaves them (R18). -/
def State.modified (s : State) (r : Record) (n : Option ProfileNumber) (f : Option Bool) (pin pout : PadChange) (g : Bool) :
    State :=
  (s.reprofile r n).update r.identity (changeLevels (s.settings.profiles.get (n.getD r.profile)) g pin pout f)

theorem doModify_eq {mode freeze profile gainReset : Byte} {padIn padOut : BitVec 16} {m : Option Mode}
    {n : Option ProfileNumber} {f : Option Bool} {pin pout : PadChange} {g : Bool} (hr : s.recordOf r.identity = some r)
    (hl : r.state ≠ .lapsed) (hn : parseOptional profile parseProfileNumber = some n)
    (h : ModifyReads mode freeze padIn padOut gainReset m f pin pout g) :
    doModify r.identity mode freeze profile padIn padOut gainReset s =
      { state := ((s.modified r n f pin pout g).changeMode r.identity m).1, status := .ok
        results := [indicateIf ((s.modified r n f pin pout g).changeMode r.identity m).2 .windowShort] } := by
  rw [doModify_of_record hn h hr hl, modifyRecord_eq]
  rfl

theorem recordOf_modified (hr : s.recordOf r.identity = some r) (n : Option ProfileNumber) (f : Option Bool)
    (pin pout : PadChange) (g : Bool) :
    ∃ q, (s.modified r n f pin pout g).recordOf r.identity = some q ∧ q.state = r.state := by
  obtain ⟨q, hq, -, hst⟩ := recordOf_reprofile hr n
  exact ⟨_, recordOf_update_self (f := changeLevels _ g pin pout f) (fun _ => rfl) hq, hst⟩

theorem modified_running (s : State) (r : Record) (n : Option ProfileNumber) (f : Option Bool) (pin pout : PadChange)
    (g : Bool) : (s.modified r n f pin pout g).running = s.running := by
  change (s.reprofile r n).running = s.running
  cases n with
  | none => rfl
  | some number =>
    change (s.changeProfile r number).running = s.running
    by_cases h : number = r.profile
    · rw [changeProfile_same s h]
    · rw [changeProfile_apart s h]
      rfl

end Sys2Proof.Machine

open Sys2Proof Sys2Proof.Machine

/-- Settles O33. -/
theorem modifyMode : Obligations.ModifyMode := by
  intro s id r hrun hs hr p
  refine ⟨fun hst => ?_, fun hst => ?_, fun hl => ?_⟩
  · have hne : ¬(r.state = .transparent ∨ r.state = .lapsed) := by rcases hst with h | h | h <;> rw [h] <;> decide
    obtain ⟨hnt, hnl⟩ := not_or.1 hne
    have hrel := makeTransparent_released hs hr
    refine ⟨takeCommand_eq hrun ((doModify_mode hr hnl rfl).trans ?_), s.makeTransparent id,
      takeCommand_eq hrun ((doModify_mode hr hnl rfl).trans ?_), recordOf_makeTransparent hs hr, hrel.waiting,
      searchStatus_cancelSearch _ _, makeTransparent_searchDropped s id, hrel.others, hrel.granted, hrel.free,
      hrel.summary, makeTransparent_apart s id, hrel.part⟩
    · rw [changeMode_cancel hr, if_neg hnt]
      rfl
    · rw [changeMode_transparent hr, if_neg hne]
      rfl
  · have hnl : r.state ≠ .lapsed := by rw [hst]; decide
    refine ⟨takeCommand_eq hrun ((doModify_mode hr hnl rfl).trans ?_), fun hss => ?_⟩
    · rw [changeMode_transparent hr, if_pos (.inl hst)]
      rfl
    · intro claims short searched
      obtain ⟨hh, hu⟩ := (stateSound_iff.1 (hss r (recordOf_some hr).1)).2 (.inl hst)
      have hbegun := begun_of_empty (r := settlingRecord r) hh hu p (s.free == 0)
      refine ⟨s.makeCancel id p, takeCommand_eq hrun ((doModify_mode hr hnl rfl).trans ?_), ?_⟩
      · rw [changeMode_cancel hr, if_pos hst]
        rfl
      · rw [makeCancel_eq hs hr p, hbegun]
        exact ⟨rfl, rfl, rfl, rfl, rfl, rfl, rfl, rfl, rfl⟩
  · intro mode freeze profile padIn padOut gainReset hmode hprof hfreeze hgain hpin hpout
    obtain ⟨-, rfl⟩ := recordOf_some hr
    obtain ⟨m, hm⟩ : ∃ m, parseOptional mode parseMode = some (some m) := by
      rcases hmode with rfl | rfl <;> exact ⟨_, rfl⟩
    obtain ⟨n, hn⟩ := parseOptional_profile hprof
    obtain ⟨f, hf, -⟩ := exists_freezeChange hfreeze
    obtain ⟨pin, hpi, -⟩ := exists_padChange hpin
    obtain ⟨pout, hpo, -⟩ := exists_padChange hpout
    have hg := parseBool_gainReset hgain
    obtain ⟨q, hq, hst⟩ := recordOf_modified hr n f pin pout (decide (gainReset = 0x01))
    have hrest := doModify_eq hr hl hn (mode := 0xFF) ⟨rfl, hf, hpi, hpo, hg⟩
    have hboth := doModify_eq hr hl hn ⟨hm, hf, hpi, hpo, hg⟩
    rw [changeMode_none] at hrest
    have hrun1 := (modified_running s r n f pin pout (decide (gainReset = 0x01))).trans hrun
    generalize s.modified r n f pin pout (decide (gainReset = 0x01)) = u at hq hrest hboth hrun1
    have hu := respond_eq 0x03 { state := u, status := .ok, results := [indicateIf false .windowShort] }
    have hmodeOnly := doModify_mode (s := u.withPort (answered u.port 0x03 .ok [indicateIf false .windowShort])) hq
      (hst ▸ hl) hm
    rw [withPort_changeMode] at hmodeOnly
    refine ⟨_, _, (takeCommand_eq hrun hrest).trans (congrArg _ hu), takeCommand_eq hrun1 hmodeOnly,
      (takeCommand_eq hrun hboth).trans (congrArg _ ?_)⟩
    rw [respond_eq, respond_eq]
    dsimp only
    rw [changeMode_port]
    change _ = State.withPort (answered (answered u.port _ _ _) _ _ _) _
    rw [answered_answered]
    rfl
end

section
/-! SUPPORT. The installation of a placement (O27). -/

namespace Sys2Proof.Machine

variable {s t : State} {id : Identity} {r : Record}

/-! ## Echo is present -/

theorem le_foldl_max {α : Type} (f : α → Nat) (xs : List α) (m : Nat) :
    m ≤ xs.foldl (fun m x => max m (f x)) m ∧ ∀ x ∈ xs, f x ≤ xs.foldl (fun m x => max m (f x)) m := by
  induction xs generalizing m with
  | nil => simp
  | cons y ys ih =>
    obtain ⟨hm, hys⟩ := ih (max m (f y))
    refine ⟨(le_max_left _ _).trans hm, fun x hx => ?_⟩
    rcases List.mem_cons.1 hx with rfl | hx
    · exact (le_max_right _ _).trans hm
    · exact hys x hx

/-- No correlation is stronger than the strongest score (R104). -/
theorem natAbs_le_strongest {correlation : List Int} (hlen : correlation.length = 1024) {c : Int}
    (hc : c ∈ correlation) : c.natAbs ≤ strongest (bandsOf correlation) := by
  obtain ⟨i, hi, rfl⟩ := List.mem_iff_getElem.1 hc
  have hband : bandOf correlation (i / 32) ∈ bandsOf correlation :=
    List.mem_map.2 ⟨i / 32, List.mem_range.2 (by omega), rfl⟩
  have hmem : correlation[i] ∈ (correlation.drop (32 * (i / 32))).take 32 := by
    refine List.mem_iff_getElem.2 ⟨i % 32, by simp; omega, ?_⟩
    simp only [List.getElem_take, List.getElem_drop]
    congr 1
    omega
  exact ((le_foldl_max Int.natAbs _ 0).2 _ hmem).trans ((le_foldl_max Band.score _ 0).2 _ hband)

theorem echoPresent_of_exists {sl : Slot} (hlen : sl.correlation.length = 1024)
    (h : ∃ c ∈ sl.correlation, sl.referenceSum ≤ c.natAbs * 32) : echoPresent sl = true := by
  obtain ⟨c, hc, hle⟩ := h
  have := natAbs_le_strongest hlen hc
  exact decide_eq_true (hle.trans (Nat.mul_le_mul_right 32 this))

/-! ## The windows of a placement -/

theorem claimedWindow_offset (returned : List Window) (o : Nat) : (claimedWindow returned o).offset = o := by
  unfold claimedWindow
  split
  · rename_i w hw
    simpa using List.find?_some hw
  · rfl

theorem claimedWindow_coefficients (returned : List Window) (o : Nat) : (claimedWindow returned o).coefficients =
    ((returned.find? fun v => v.offset == o).map (·.coefficients)).getD (List.replicate 64 0) := by
  unfold claimedWindow
  cases returned.find? (·.offset == o) <;> rfl

theorem foldl_insertWindow_perm {g : Nat → Window} (offsets : List Nat) (held : List Window) :
    (offsets.foldl (fun held o => insertWindow (g o) held) held).Perm (offsets.map g ++ held) := by
  induction offsets generalizing held with
  | nil => exact .refl _
  | cons o more ih =>
    refine (ih _).trans ?_
    exact ((insertWindow_perm (g o) held).append_left (more.map g)).trans List.perm_middle

theorem claimedWindows_perm (returned : List Window) (offsets : List Nat) :
    (claimedWindows returned offsets).Perm (offsets.map (claimedWindow returned)) := by
  have h := foldl_insertWindow_perm (g := claimedWindow returned) offsets []
  rwa [List.append_nil] at h

theorem claimedWindows_offsets (returned : List Window) (offsets : List Nat) :
    ((claimedWindows returned offsets).map (·.offset)).Perm offsets := by
  refine ((claimedWindows_perm returned offsets).map _).trans ?_
  rw [List.map_map]
  exact .of_eq ((List.map_congr_left fun o _ => claimedWindow_offset returned o).trans (List.map_id _))

theorem claimedWindows_coefficients {returned : List Window} {offsets : List Nat} {w : Window}
    (hw : w ∈ claimedWindows returned offsets) : w.coefficients =
      ((returned.find? fun v => v.offset == w.offset).map (·.coefficients)).getD (List.replicate 64 0) := by
  obtain ⟨o, -, rfl⟩ := List.mem_map.1 ((claimedWindows_perm returned offsets).mem_iff.1 hw)
  rw [claimedWindow_offset, claimedWindow_coefficients]

/-- A placement's windows stand in strictly ascending order (R121). -/
theorem claimedWindows_ascending (returned : List Window) {offsets : List Nat} (h : offsets.Nodup) :
    (claimedWindows returned offsets).Pairwise fun a b => a.offset < b.offset := by
  have hsorted : (claimedWindows returned offsets).Pairwise fun a b => a.offset ≤ b.offset :=
    List.foldlRecOn offsets _ (motive := List.Pairwise fun a b : Window => a.offset ≤ b.offset)
      List.Pairwise.nil fun _ hheld _ _ => insertWindow_sorted hheld
  have hne : (claimedWindows returned offsets).Pairwise fun a b => a.offset ≠ b.offset :=
    List.pairwise_map.1 ((claimedWindows_offsets returned offsets).nodup_iff.2 h)
  exact (hsorted.and hne).imp fun ⟨hle, hneq⟩ => lt_of_le_of_ne hle hneq

theorem searchPlacement_nodup (limit : Nat) (correlation : List Int) : (searchPlacement limit correlation).Nodup := by
  refine (placementOf_sound limit _).1.1.imp ?_
  rintro a b h rfl
  have := windowsOverlap_eq_false_iff.1 h
  omega

/-! ## The installation -/

/-- A record with the windows of a placement that were free, and without those that were not (R121). -/
def Record.installed (returned : List Window) (claimed short : List Nat) (r : Record) : Record :=
  if short = [] then { r with held := claimedWindows returned claimed, unplaced := [] }
  else { r with held := claimedWindows returned claimed, unplaced := short, alarms := r.alarms ||| 0x8 }

theorem map_const_update (s : State) {id : Identity} {f : Record → Record} (hf : ∀ r, (f r).identity = r.identity)
    (x : Record) : ((s.update id f).records.map fun q => if q.identity = id then x else q) =
      s.records.map fun q => if q.identity = id then x else q :=
  congrArg State.records (update_update s id (f := f) (fun _ => x) hf)

theorem returnWindows_eq {x : Record} (hr : s.recordOf id = some x) : s.returnWindows id =
    { s with
      records := (s.update id Record.emptied).records
      free := s.free + x.held.length
      waiting := s.waiting.filter (· != id) } := by
  simp only [State.returnWindows, hr]
  rfl

/-- A record that holds other windows. -/
def Record.holding (held : List Window) (r : Record) : Record := { r with held := held }

theorem claimed_eq {x : Record} (hx : s.recordOf r.identity = some x) (hheld : x.held = r.held) (placement : List Nat) :
    s.claimed r placement =
      { s with
        records := (s.update r.identity fun q =>
          q.emptied.holding (claimedWindows r.held (placement.take (s.free + r.held.length)))).records
        free := s.free + r.held.length - (placement.take (s.free + r.held.length)).length
        waiting := s.waiting.filter (· != r.identity) } := by
  have hrecs := congrArg State.records (update_update s r.identity (f := Record.emptied)
    (Record.holding (claimedWindows r.held (placement.take (s.free + r.held.length)))) fun _ => rfl)
  unfold State.claimed
  rw [returnWindows_eq hx, hheld]
  exact congrArg (fun rs : List Record =>
    { s with
      records := rs
      free := s.free + r.held.length - (placement.take (s.free + r.held.length)).length
      waiting := s.waiting.filter (· != r.identity) }) hrecs

/-- The claim and the wait as one change of the table, the pool and the summary (R121, R126). -/
theorem placed_eq (hs : s.TableSound) {x : Record} (hx : s.recordOf r.identity = some x) (hheld : x.held = r.held)
    (placement : List Nat) :
    let n := s.free + r.held.length
    s.placed r placement =
      { s with
        records := s.records.map fun q =>
          if q.identity = r.identity then x.installed r.held (placement.take n) (placement.drop n) else q
        free := n - (placement.take n).length
        waiting := s.waiting.filter (· != r.identity) ++ (if placement.drop n = [] then [] else [r.identity])
        summary := if placement.drop n ≠ [] ∧ x.alarms &&& 0x8 = 0 then s.summary ||| 0x10 else s.summary } := by
  intro n
  have hfree : (s.returnWindows r.identity).free = n := by rw [returnWindows_eq hx, hheld]
  unfold State.placed
  rw [hfree]
  by_cases hshort : placement.drop n = []
  · rw [if_pos hshort, claimed_eq hx hheld, update_eq_const hs hx]
    simp only [Record.installed, hshort, if_true, List.append_nil, ne_eq, not_true, false_and, if_false]
    rfl
  · rw [if_neg hshort]
    have hid : ∀ q : Record, (q.emptied.holding (claimedWindows r.held (placement.take n))).identity = q.identity :=
      fun _ => rfl
    have hts := (claimed_poolStep s r placement).tableSound hs
    have hcl := claimed_eq hx hheld placement
    have hrec : (s.claimed r placement).recordOf r.identity =
        some (x.emptied.holding (claimedWindows r.held (placement.take n))) := by
      rw [hcl]
      exact recordOf_update_self (s := s) hid hx
    rw [waitFor_eq hts hrec, hcl]
    dsimp only
    rw [map_const_update s hid]
    simp only [Record.installed, ne_eq, hshort, not_false_eq_true, true_and]
    rfl

/-! ## The search ends -/

/-- The search that a slot holds is done and finds echo (R103 to R105, R109). -/
theorem completeSearch_of_placed (hse : s.SearchSound) (hr : s.recordOf id = some r) {sl : Slot} (hsl : sl ∈ s.slots)
    (hid : sl.identity = id) (hdone : 2048 ≤ sl.qualifying) (hecho : echoPresent sl = true) :
    s.completeSearch id =
      State.arbitrate (((s.freeSlot id).update r.identity (noteResult .placed)).install r
        (searchPlacement (s.profileOf r).windowLimit sl.correlation)) := by
  obtain ⟨x, hx⟩ := Option.ne_none_iff_exists'.1 fun hnone => not_mem_of_find_slot hnone hsl hid
  have hfind := find_slot_unique hse hx hsl hid
  subst hfind
  unfold State.completeSearch
  rw [hr, hx]
  simp only [searchDone, hdone, decide_true, if_true, State.judgeSearch, hecho]
  rfl

/-- The record that an installation leaves, spelled out (R109, R121, R122, R126). -/
def Record.placedRecord (claimed short : List Nat) (r : Record) : Record :=
  let moved := r.state = .converged ∧ (claimedWindows r.held claimed).map (·.offset) ≠ r.held.map (·.offset)
  { r with
    held := claimedWindows r.held claimed
    unplaced := short
    alarms := if short = [] then r.alarms else r.alarms ||| 0x8
    lastResult := .placed
    tallies := { r.tallies with searchesCompleted := min 65535 (r.tallies.searchesCompleted + 1) }
    state := if moved then .settling else r.state
    passCount := if moved then 0 else r.passCount
    failCount := if moved then 0 else r.failCount }

theorem settleState_installed (claimed short : List Nat) (r : Record) :
    settleState (r.held.map (·.offset)) ((noteResult .placed r).installed r.held claimed short) =
      r.placedRecord claimed short := by
  by_cases hmoved : r.state = .converged ∧ (claimedWindows r.held claimed).map (·.offset) ≠ r.held.map (·.offset)
  · by_cases hshort : short = []
    · simp only [Record.placedRecord, Record.installed, hshort, if_true, if_pos hmoved]
      exact if_pos hmoved
    · simp only [Record.placedRecord, Record.installed, if_neg hshort, if_pos hmoved]
      exact if_pos hmoved
  · by_cases hshort : short = []
    · simp only [Record.placedRecord, Record.installed, hshort, if_true, if_neg hmoved]
      exact if_neg hmoved
    · simp only [Record.placedRecord, Record.installed, if_neg hshort, if_neg hmoved]
      exact if_neg hmoved

theorem installed_identity (returned : List Window) (claimed short : List Nat) (r : Record) :
    (r.installed returned claimed short).identity = r.identity := by
  unfold Record.installed
  split <;> rfl

theorem map_update_const (rs : List Record) {id : Identity} {x : Record} (hx : x.identity = id) (f : Record → Record) :
    ((rs.map fun q => if q.identity = id then x else q).map fun q => if q.identity = id then f q else q) =
      rs.map fun q => if q.identity = id then f x else q := by
  rw [List.map_map]
  refine List.map_congr_left fun q _ => ?_
  by_cases hq : q.identity = id
  · simp [hq, hx]
  · simp [hq]

theorem filter_map_const (rs : List Record) {id : Identity} {x : Record} (hx : x.identity = id) :
    (rs.map fun q => if q.identity = id then x else q).filter (·.identity != id) = rs.filter (·.identity != id) := by
  induction rs with
  | nil => rfl
  | cons q qs ih =>
    rw [List.map_cons, List.filter_cons, List.filter_cons, ih]
    by_cases hq : q.identity = id <;> simp [hq, hx]

/-- A search's end with PLACED, before the grants and the arbiter's work (R109, R121). -/
def State.installed (s : State) (r : Record) (placement : List Nat) : State :=
  let n := s.free + r.held.length
  { s with
    records := s.records.map fun q =>
      if q.identity = r.identity then r.placedRecord (placement.take n) (placement.drop n) else q
    free := n - (placement.take n).length
    waiting := s.waiting.filter (· != r.identity) ++ (if placement.drop n = [] then [] else [r.identity])
    summary := if placement.drop n ≠ [] ∧ r.alarms &&& 0x8 = 0 then s.summary ||| 0x10 else s.summary
    slots := s.slots.filter (·.identity != r.identity) }

theorem install_eq_installed (hs : s.TableSound) (hr : s.recordOf r.identity = some r) (placement : List Nat) :
    ((s.freeSlot r.identity).update r.identity (noteResult .placed)).install r placement =
      (s.installed r placement).grantAll := by
  have hnid : ∀ q : Record, (noteResult .placed q).identity = q.identity := fun _ => rfl
  have hts : ((s.freeSlot r.identity).update r.identity (noteResult .placed)).TableSound :=
    ((freeSlot_rowsKept s r.identity).trans (update_rowsKept _ _ (keysKept_noteResult _))).tableSound hs
  have hx : ((s.freeSlot r.identity).update r.identity (noteResult .placed)).recordOf r.identity =
      some (noteResult .placed r) := recordOf_update_self hnid hr
  rw [install_eq, placed_eq hts hx rfl]
  have hplaced := map_const_update (s.freeSlot r.identity) (id := r.identity) hnid
    ((noteResult .placed r).installed r.held (placement.take (s.free + r.held.length))
      (placement.drop (s.free + r.held.length)))
  have hsettled := map_update_const (s.freeSlot r.identity).records (id := r.identity)
    (installed_identity r.held (placement.take (s.free + r.held.length)) (placement.drop (s.free + r.held.length))
      (noteResult .placed r)) (settleState (r.held.map (·.offset)))
  rw [← hplaced, settleState_installed] at hsettled
  have hinstalled := congrArg (fun rs : List Record => { s.installed r placement with records := rs }) hsettled
  exact congrArg State.grantAll hinstalled

theorem installed_tableSound (hs : s.TableSound) (hr : s.recordOf r.identity = some r) (placement : List Nat) :
    (s.installed r placement).TableSound := by
  have hmem := (recordOf_some hr).1
  have heq (q : Record) (hq : q ∈ s.records) (hi : q.identity = r.identity) : q = r := eq_of_identity_eq hs hq hmem hi
  refine tableSound_of_keys (s := s) ?_ ?_ hs
  · simp only [State.installed, List.map_map]
    refine List.map_congr_left fun q hq => ?_
    by_cases hi : q.identity = r.identity <;> simp [hi, Record.placedRecord]
  · simp only [State.installed, List.map_map]
    refine List.map_congr_left fun q hq => ?_
    by_cases hi : q.identity = r.identity
    · simp [Record.placedRecord, heq q hq hi]
    · simp [hi]

theorem recordOf_installed (hs : s.TableSound) (hr : s.recordOf r.identity = some r) (placement : List Nat) :
    (s.installed r placement).recordOf r.identity =
      some (r.placedRecord (placement.take (s.free + r.held.length)) (placement.drop (s.free + r.held.length))) :=
  (recordOf_eq_some_iff (installed_tableSound hs hr placement)).2
    ⟨List.mem_map.2 ⟨r, (recordOf_some hr).1, if_pos rfl⟩, rfl⟩

/-- While an offset is left without a window, every window is lent out (R121). -/
theorem installed_free_of_short {placement : List Nat} (h : placement.drop (s.free + r.held.length) ≠ []) :
    (s.installed r placement).free = 0 := by
  have hlen : s.free + r.held.length < placement.length := by
    by_contra hle
    exact h (List.drop_eq_nil_of_le (by omega))
  simp only [State.installed, List.length_take]
  omega

theorem recordOf_installed_granted (hs : s.TableSound) (hr : s.recordOf r.identity = some r) (placement : List Nat) :
    (s.installed r placement).grantAll.recordOf r.identity =
      some (r.placedRecord (placement.take (s.free + r.held.length)) (placement.drop (s.free + r.held.length))) := by
  by_cases h : placement.drop (s.free + r.held.length) = []
  · exact recordOf_grantAll_of_placed (installed_tableSound hs hr placement) (recordOf_installed hs hr placement) h
  · rw [grantAll_eq_self (.inl (installed_free_of_short h))]
    exact recordOf_installed hs hr placement

/-- The pool of an installation, from the free count, the waiting list and the offsets that the record lacks (R121). -/
theorem installed_agree (hs : s.TableSound) (hr : s.recordOf r.identity = some r) (placement : List Nat) :
    PoolAgree r.identity
      { s.update r.identity (Record.keeping [] (placement.drop (s.free + r.held.length))) with
        free := (s.installed r placement).free, waiting := (s.installed r placement).waiting }
      (s.installed r placement) := by
  have hid : ∀ q : Record, (q.keeping [] (placement.drop (s.free + r.held.length))).identity = q.identity := fun _ => rfl
  refine ⟨rfl, rfl, rfl, ?_, ?_⟩
  · have hconst := update_filter_self (id := r.identity) s hid
    exact (filter_map_const s.records (by rfl)).trans hconst.symm
  · rw [recordOf_installed hs hr]
    exact (congrArg (Option.map fun x : Record => x.unplaced) (recordOf_update_self hid hr)).symm

theorem mem_installed_of_ne {placement : List Nat} {q : Record} (hq : q ∈ s.records) (hne : q.identity ≠ r.identity) :
    q ∈ (s.installed r placement).records := List.mem_map.2 ⟨q, hq, if_neg hne⟩

theorem mem_waiting_installed {placement : List Nat} :
    (placement.drop (s.free + r.held.length) ≠ [] → r.identity ∈ (s.installed r placement).grantAll.waiting) ∧
      (placement.drop (s.free + r.held.length) = [] → r.identity ∉ (s.installed r placement).grantAll.waiting) := by
  refine ⟨fun h => ?_, fun h hmem => ?_⟩
  · rw [grantAll_eq_self (.inl (installed_free_of_short h))]
    simp [State.installed, h]
  · have := grantAll_waiting_subset _ hmem
    simp [State.installed, h] at this

theorem installed_free_of_not_waiting {placement : List Nat} (hw : s.waiting = []) :
    (s.installed r placement).grantAll.free =
      s.free + r.held.length - (placement.take (s.free + r.held.length)).length := by
  by_cases h : placement.drop (s.free + r.held.length) = []
  · rw [grantAll_eq_self (.inr (by simp [State.installed, hw, h]))]
    rfl
  · rw [grantAll_eq_self (.inl (installed_free_of_short h))]
    rfl

/-- A record whose slot is freed stands nowhere in the search unit (R95). -/
theorem not_mem_searching_freeSlot (hse : s.SearchSound) {sl : Slot} (hsl : sl ∈ s.slots) (hid : sl.identity = id) :
    id ∉ (s.freeSlot id).searching := by
  obtain ⟨-, honce, -, -⟩ := hse
  rw [State.searching, List.append_assoc, List.nodup_append] at honce
  obtain ⟨-, -, hdisjoint⟩ := honce
  have hlanes : id ∉ s.priorityLane ++ s.ordinaryLane := fun hmem =>
    hdisjoint id (List.mem_map.2 ⟨sl, hsl, hid⟩) id hmem rfl
  rw [mem_searching, ← List.mem_append]
  rintro (⟨x, hx, hxi⟩ | hmem)
  · exact absurd hxi (by simpa using (List.mem_filter.1 hx).2)
  · exact hlanes hmem

end Sys2Proof.Machine

open Sys2Proof Sys2Proof.Machine

/-- Settles O27. -/
theorem searchPlacedInstalls : Obligations.SearchPlacedInstalls := by
  intro s id r sl hrun hs hse hr hsl hid hdone hlen hecho placement claimed short settled
  have hcomplete := completeSearch_of_placed hse hr hsl hid hdone (echoPresent_of_exists hlen hecho)
  obtain ⟨-, rfl⟩ := recordOf_some hr
  have hinstall := install_eq_installed hs hr placement
  have hP := grantAll_poolStep (s.installed r placement)
  have hagree := installed_agree hs hr placement
  obtain ⟨hshort, hplaced⟩ := mem_waiting_installed (s := s) (r := r) (placement := placement)
  refine ⟨State.arbitrate (s.installed r placement).grantAll, ?_, r.placedRecord claimed short, ?_, ?_, ?_,
    fun w => claimedWindows_coefficients, rfl, ?_, ?_, rfl, ?_, fun hw => ?_, rfl, ?_, ?_, ?_, ?_, ?_, ?_⟩
  · refine (whileRunning_of_running hrun fun s => s.completeSearch r.identity).trans ?_
    rw [hcomplete, ← hinstall]
    rfl
  · rw [recordOf_congr (arbitrate_records _)]
    exact recordOf_installed_granted hs hr placement
  · exact claimedWindows_ascending r.held ((searchPlacement_nodup _ _).sublist (List.take_sublist _ _))
  · exact claimedWindows_offsets r.held claimed
  · rw [arbitrate_waiting]
    exact hshort
  · rw [arbitrate_waiting]
    exact hplaced
  · rw [arbitrate_summary, grantAll_summary]
    rfl
  · rw [arbitrate_free]
    exact installed_free_of_not_waiting hw
  · rw [searchStatus_eq_noSearch_iff, (arbitrate_searching _).mem_iff,
      searching_congr (s := s.freeSlot r.identity) hP.priorityLane hP.ordinaryLane hP.slots]
    exact not_mem_searching_freeSlot hse hsl hid
  · exact arbitrate_congr hP.priorityLane hP.ordinaryLane hP.slots
  · intro q hq hne
    rw [arbitrate_records]
    exact othersKept_grantAll (installed_tableSound hs hr placement) (fun q => mem_installed_of_ne) q hq hne
  · obtain ⟨hfree, hwaiting, hpart, hothers⟩ := hagree.grantAll.grantedAs
    exact ⟨(arbitrate_free _).trans hfree, (arbitrate_waiting _).trans hwaiting, (arbitrate_part _).trans hpart,
      (congrArg _ (arbitrate_records _)).trans hothers⟩
  · exact sameApart_trans (t := s.installed r placement) rfl (sameApart_trans hP.apart (arbitrate_sameApart _))
  · rw [arbitrate_part]
    exact hP.part
end

section
/-! SUPPORT. One record's block-end work: what it leaves of the others, of the search unit and of the summary. -/

namespace Sys2Proof.Machine

variable {s t u : State} {x y z : Record}

/-! ## The flags of block-end work -/

/-- The event kinds of a block end: a record's alarm set gained a kind, and a record lapsed (R8, R158). -/
def endFlags (gained lapsed : Bool) : EventSet := (if gained then 0x10 else 0) ||| (if lapsed then 0x20 else 0)

theorem endFlags_or (a b c d : Bool) : endFlags a b ||| endFlags c d = endFlags (a || c) (b || d) := by
  revert a b c d
  decide

/-- Whether a record lapsed. -/
def lapsedSince (x y : Record) : Bool := x.state != .lapsed && y.state == .lapsed

theorem or_or_eq_iff (a b c : AlarmSet) : a ||| b ||| c = a ↔ a ||| b = a ∧ a ||| b ||| c = a ||| b := by
  refine ⟨fun h => ?_, fun ⟨h, k⟩ => k.trans h⟩
  have hb : a ||| b = a :=
    calc a ||| b = (a ||| b ||| c) ||| b := by rw [h]
      _ = a ||| b ||| c := by rw [BitVec.or_assoc, BitVec.or_comm c b, ← BitVec.or_assoc, BitVec.or_assoc a, BitVec.or_self]
      _ = a := h
  exact ⟨hb, h.trans hb.symm⟩

/-! ## The work of one record -/

/-- A part of one record's block-end work: it makes y of the record x, grants windows to the others and not otherwise
changes them, leaves their searches, adds to the summary what R8 and R158 say, and lets nobody join the waiting list. -/
structure EndWork (x y : Record) (s t : State) : Prop where
  own : t.recordOf x.identity = some y
  table : t.TableSound
  others : ∀ j ≠ x.identity, ∀ q, s.recordOf j = some q → ∃ k, t.recordOf j = some (q.granted k)
  identities : t.records.map (·.identity) = s.records.map (·.identity)
  searching : ∀ j ≠ x.identity, (j ∈ t.searching ↔ j ∈ s.searching)
  waiting : t.waiting ⊆ s.waiting
  settings : t.settings = s.settings
  identity : y.identity = x.identity
  position : y.position = x.position
  profile : y.profile = x.profile
  stays : x.state = .lapsed → y.state = .lapsed
  added : ∃ a, y.alarms = x.alarms ||| a
  summary : t.summary = s.summary ||| endFlags (y.alarms != x.alarms) (lapsedSince x y)

theorem EndWork.refl (hs : s.TableSound) (h : s.recordOf x.identity = some x) : EndWork x x s s where
  own := h
  table := hs
  others j _ q hq := ⟨0, hq⟩
  identities := rfl
  searching _ _ := .rfl
  waiting _ h := h
  settings := rfl
  identity := rfl
  position := rfl
  profile := rfl
  stays h := h
  added := ⟨0, by simp⟩
  summary := by
    have hl : lapsedSince x x = false := by simp [lapsedSince]
    rw [hl, bne_self_eq_false]
    exact (BitVec.or_zero).symm

theorem EndWork.trans (h : EndWork x y s t) (k : EndWork y z t u) : EndWork x z s u where
  own := h.identity ▸ k.own
  table := k.table
  others j hj q hq := by
    obtain ⟨m, hm⟩ := h.others j hj q hq
    obtain ⟨n, hn⟩ := k.others j (h.identity ▸ hj) _ hm
    exact ⟨m + n, granted_granted q m n ▸ hn⟩
  identities := k.identities.trans h.identities
  searching j hj := (k.searching j (h.identity ▸ hj)).trans (h.searching j hj)
  waiting j hj := h.waiting (k.waiting hj)
  settings := k.settings.trans h.settings
  identity := k.identity.trans h.identity
  position := k.position.trans h.position
  profile := k.profile.trans h.profile
  stays hx := k.stays (h.stays hx)
  added := by
    obtain ⟨a, ha⟩ := h.added
    obtain ⟨b, hb⟩ := k.added
    exact ⟨a ||| b, by rw [hb, ha, BitVec.or_assoc]⟩
  summary := by
    obtain ⟨a, ha⟩ := h.added
    obtain ⟨b, hb⟩ := k.added
    have hgained : (y.alarms != x.alarms || z.alarms != y.alarms) = (z.alarms != x.alarms) := by
      rw [hb, ha, Bool.eq_iff_iff, Bool.or_eq_true, bne_iff_ne, bne_iff_ne, bne_iff_ne, Ne, Ne, Ne, or_or_eq_iff]
      tauto
    have hlapsed : (lapsedSince x y || lapsedSince y z) = lapsedSince x z := by
      have h1 := h.stays
      have h2 := k.stays
      rw [Bool.eq_iff_iff]
      simp only [lapsedSince, Bool.or_eq_true, Bool.and_eq_true, bne_iff_ne, beq_iff_eq]
      tauto
    rw [k.summary, h.summary, BitVec.or_assoc, endFlags_or, hgained, hlapsed]

/-- A change of the record alone. -/
theorem endWork_update {f : Record → Record} (hf : KeysKept f) (hs : s.TableSound) (h : s.recordOf x.identity = some x)
    (ha : (f x).alarms = x.alarms) (hst : (f x).state = .lapsed ↔ x.state = .lapsed) :
    EndWork x (f x) s (s.update x.identity f) where
  own := recordOf_update_self hf.identity h
  table := (update_rowsKept s x.identity hf).tableSound hs
  others j hj q hq := ⟨0, by rw [recordOf_update_other s hj hf.identity]; exact hq⟩
  identities := update_identities s x.identity hf.identity
  searching _ _ := .rfl
  waiting _ h := h
  settings := rfl
  identity := hf.identity x
  position := hf.position x
  profile := hf.profile x
  stays := hst.2
  added := ⟨0, by simp [ha]⟩
  summary := by
    have hl : lapsedSince x (f x) = false := by
      rw [lapsedSince, Bool.and_eq_false_iff]
      by_cases hx : x.state = .lapsed
      · exact .inl (by simp [hx])
      · exact .inr (beq_false_of_ne fun he => hx (hst.1 he))
    rw [ha, hl, bne_self_eq_false]
    exact (BitVec.or_zero).symm

theorem or_flag_ne {a : AlarmSet} {k : Alarm} (h : holdsAlarm a k = false) : a ||| k.flag ≠ a := by
  revert h
  cases k <;> simp only [holdsAlarm, Alarm.flag] <;> revert a <;> decide

/-- An alarm (R8). -/
theorem endWork_raiseAlarm (hs : s.TableSound) (h : s.recordOf x.identity = some x) (k : Alarm) :
    EndWork x (x.withAlarm k) s (s.raiseAlarm x.identity k) where
  own := recordOf_raiseAlarm_self h k
  table := (raiseAlarm_poolStep s _ k).tableSound hs
  others j hj q hq := ⟨0, by rw [recordOf_raiseAlarm_other s hj]; exact hq⟩
  identities := (raiseAlarm_poolStep s _ k).identities
  searching j _ := by
    have hP := raiseAlarm_poolStep s x.identity k
    rw [searching_congr hP.priorityLane hP.ordinaryLane hP.slots]
  waiting := by
    rw [raiseAlarm_of_some hs h]
    exact fun _ h => h
  settings := sameApart_settings (raiseAlarm_poolStep s _ k).apart
  identity := rfl
  position := rfl
  profile := rfl
  stays h := h
  added := ⟨k.flag, rfl⟩
  summary := by
    have hl : lapsedSince x (x.withAlarm k) = false := by simp [lapsedSince]
    rw [raiseAlarm_of_some hs h, hl]
    by_cases hold : holdsAlarm x.alarms k = true
    · rw [withAlarm_of_holds hold, hold, bne_self_eq_false]
      exact (BitVec.or_zero).symm
    · have hne : (x.alarms ||| k.flag != x.alarms) = true := bne_iff_ne.2 (or_flag_ne (by simpa using hold))
      rw [if_neg hold, show (x.withAlarm k).alarms = x.alarms ||| k.flag from rfl, hne]
      rfl

/-- A step of the search unit for the record. -/
theorem EndWork.search (h : EndWork x y s t) (hrec : u.records = t.records) (hw : u.waiting = t.waiting)
    (hset : u.settings = t.settings) (hsum : u.summary = t.summary)
    (hsearch : ∀ j ≠ x.identity, (j ∈ u.searching ↔ j ∈ t.searching)) : EndWork x y s u where
  own := by rw [recordOf_congr hrec, h.own]
  table := by rw [State.TableSound, hrec]; exact h.table
  others j hj q hq := by rw [recordOf_congr hrec]; exact h.others j hj q hq
  identities := by rw [hrec]; exact h.identities
  searching j hj := (hsearch j hj).trans (h.searching j hj)
  waiting := hw ▸ h.waiting
  settings := hset.trans h.settings
  identity := h.identity
  position := h.position
  profile := h.profile
  stays := h.stays
  added := h.added
  summary := hsum.trans h.summary

theorem EndWork.request (h : EndWork x y s t) (l : Lane) : EndWork x y s (t.request l x.identity) :=
  h.search (request_records _ _ _) (request_waiting _ _ _) (request_settings _ _ _) (request_summary _ _ _)
    fun j hj => by rw [mem_searching_request, or_iff_left hj]

theorem EndWork.cancelSearch (h : EndWork x y s t) : EndWork x y s (t.cancelSearch x.identity) :=
  h.search (cancelSearch_records _ _) (cancelSearch_waiting _ _) (cancelSearch_settings _ _) (cancelSearch_summary _ _)
    fun j hj => by rw [mem_searching_cancelSearch, and_iff_left hj]

theorem EndWork.supervisorRequest (h : EndWork x y s t) : EndWork x y s (t.supervisorRequest x.identity) := by
  unfold State.supervisorRequest
  split
  · split
    · exact h.request .priority
    · exact h
  · exact h

/-- A lapse (R157, R158). -/
theorem endWork_lapse {f : Record → Record} (hf : KeysKept f) (hs : s.TableSound) (h : s.recordOf x.identity = some x)
    (ha : (f x).alarms = x.alarms) (hst : (f x).state = .lapsed) (hx : x.state ≠ .lapsed) :
    EndWork x (f x).emptied s
      ((((s.update x.identity f).releaseAll x.identity).cancelSearch x.identity).raise .lapse) := by
  have ht := (update_rowsKept s x.identity hf).tableSound hs
  have hP := releaseAll_poolStep (s.update x.identity f) x.identity
  have hown := recordOf_update_self hf.identity h
  have hrel := releaseAll_released ht hown
  have hrecs : ((((s.update x.identity f).releaseAll x.identity).cancelSearch x.identity).raise .lapse).records =
      ((s.update x.identity f).releaseAll x.identity).records := cancelSearch_records _ _
  have htable : ((((s.update x.identity f).releaseAll x.identity).cancelSearch x.identity).raise .lapse).TableSound := by
    rw [State.TableSound, hrecs]
    exact hP.tableSound ht
  refine ⟨?_, htable, fun j hj q hq => ?_, ?_, fun j hj => ?_, ?_, ?_, hf.identity x, hf.position x, hf.profile x,
    fun he => absurd he hx, ⟨0, by simp [Record.emptied, ha]⟩, ?_⟩
  · rw [recordOf_congr hrecs]
    exact recordOf_releaseAll ht hown
  · obtain ⟨hmem, rfl⟩ := recordOf_some ((recordOf_update_other s hj hf.identity).trans hq)
    obtain ⟨k, hk⟩ := hrel.others q hmem hj
    exact ⟨k, (recordOf_eq_some_iff htable).2 ⟨hrecs ▸ hk, rfl⟩⟩
  · rw [hrecs, hP.identities, update_identities s x.identity hf.identity]
  · refine (mem_searching_cancelSearch (s := (s.update x.identity f).releaseAll x.identity)).trans ?_
    rw [and_iff_left hj, searching_congr (s := s) hP.priorityLane hP.ordinaryLane hP.slots]
  · intro j hj
    have hj : j ∈ ((s.update x.identity f).releaseAll x.identity).waiting :=
      (cancelSearch_waiting ((s.update x.identity f).releaseAll x.identity) x.identity) ▸ hj
    have := grantAll_waiting_subset _ hj
    rw [returnWindows_eq hown] at this
    exact (List.mem_filter.1 this).1
  · exact (cancelSearch_settings _ _).trans (sameApart_settings hP.apart)
  · have hl : lapsedSince x (f x).emptied = true := by simp [lapsedSince, hx, Record.emptied, hst]
    have hal : (f x).emptied.alarms = x.alarms := ha
    rw [hl, hal, bne_self_eq_false]
    change (((s.update x.identity f).releaseAll x.identity).cancelSearch x.identity).summary ||| 0x20 = _
    rw [cancelSearch_summary, hrel.summary]
    rfl

end Sys2Proof.Machine
end

section
/-! SUPPORT. The parts of one record's block-end work, and the whole of it. -/

namespace Sys2Proof.Machine

variable {s t : State} {x y r : Record}

/-! ## The parts -/

theorem detectClip_work (hs : s.TableSound) (h : s.recordOf x.identity = some x) :
    EndWork x x.clipDetected s (s.detectClip x) := by
  unfold State.detectClip Record.clipDetected
  split
  · have h1 := endWork_update keysKept_countClip hs h rfl .rfl
    exact h1.trans (endWork_raiseAlarm (x := countClip x) h1.table h1.own .inputClip)
  · exact .refl hs h

theorem testEcho_work (hs : s.TableSound) (h : s.recordOf x.identity = some x) :
    EndWork x x.echoTested s (s.testEcho x) := by
  unfold State.testEcho Record.echoTested
  split
  · exact endWork_raiseAlarm hs h .echoStrong
  · exact .refl hs h

theorem handleClass_work (hs : s.TableSound) (h : s.recordOf x.identity = some x) (hx : cancels x.state = true)
    (c : BlockClass) : EndWork x (x.handled c) s (s.handleClass x.identity c) := by
  have hlive : x.state ≠ .lapsed := by rintro he; rw [he] at hx; cases hx
  cases c with
  | divergent =>
    have h1 := endWork_update keysKept_divergeRecord hs h rfl (iff_of_false (by rintro ⟨⟩) hlive)
    exact (h1.trans (endWork_raiseAlarm (x := divergeRecord x) h1.table h1.own .diverged)).supervisorRequest
  | passing =>
    rw [handleClass_passing h]
    unfold Record.handled
    dsimp only
    split
    · exact endWork_update (keysKept_passBlock.comp keysKept_promoteRecord) hs h rfl (iff_of_false (by rintro ⟨⟩) hlive)
    · exact endWork_update keysKept_passBlock hs h rfl .rfl
  | failing =>
    rw [handleClass_failing h]
    unfold Record.handled
    dsimp only
    split
    · exact (endWork_update (keysKept_failBlock.comp keysKept_changePathRecord) hs h rfl
        (iff_of_false (by rintro ⟨⟩) hlive)).supervisorRequest
    · exact endWork_update keysKept_failBlock hs h rfl .rfl
  | marginal => exact endWork_update keysKept_marginalBlock hs h rfl .rfl

theorem supervise_work (hs : s.TableSound) (h : s.recordOf x.identity = some x) :
    EndWork x (x.supervised (s.profileOf x)) s (s.supervise x.identity) := by
  rw [supervise_of_some h]
  unfold Record.supervised
  split
  · rename_i hq
    have h1 := testEcho_work hs h
    have h2 := handleClass_work (x := x.echoTested) h1.table (h1.identity ▸ h1.own)
      (by rw [echoTested_state]; exact qualifies_cancels hq) (classify (s.profileOf x) x.block)
    rw [h1.identity] at h2
    exact h1.trans h2
  · exact .refl hs h

theorem reviseToneOrQuiet_alarms (p : Profile) (r : Record) : (reviseToneOrQuiet p r).alarms = r.alarms := by
  unfold reviseToneOrQuiet
  split <;> rfl

theorem returnState_ne_lapsed (r : Record) : returnState r ≠ .lapsed := by
  rcases cancels_iff.1 (returnState_cancels r) with he | he <;> simp [he]

theorem toneWork_work (hs : s.TableSound) (h : s.recordOf x.identity = some x) :
    EndWork x (x.toneWorked (s.profileOf x)) s (s.toneWork x.identity) := by
  have hrevise := endWork_update (keysKept_reviseToneOrQuiet (s.profileOf x)) hs h (reviseToneOrQuiet_alarms _ x)
    (by rw [reviseToneOrQuiet_state])
  unfold Record.toneWorked
  by_cases hst : x.state = .bypass
  · rw [toneWork_of_bypass h hst]
    simp only [bypassDue_reviseToneOrQuiet_of_bypass hst, Bool.false_eq_true, if_false]
    have hback := endWork_update ((keysKept_reviseToneOrQuiet (s.profileOf x)).comp keysKept_returnRecord) hs h
      (reviseToneOrQuiet_alarms _ x) (iff_of_false (returnState_ne_lapsed _) (by rw [hst]; rintro ⟨⟩))
    split
    · split
      · exact hback.request .ordinary
      · exact hback
    · exact hrevise
  · rw [toneWork_of_not_bypass h hst]
    simp only [returnDue_reviseToneOrQuiet_of_not_bypass hst, Bool.false_eq_true, if_false]
    split
    · rename_i hdue
      have hlive : x.state ≠ .lapsed := by
        rintro he
        simp [bypassDue, reviseToneOrQuiet_state, he, cancels] at hdue
      exact (endWork_update ((keysKept_reviseToneOrQuiet (s.profileOf x)).comp keysKept_bypassRecord) hs h
        (reviseToneOrQuiet_alarms _ x) (iff_of_false (by rintro ⟨⟩) hlive)).cancelSearch
    · exact hrevise

theorem idleWork_work (hs : s.TableSound) (h : s.recordOf x.identity = some x) :
    EndWork x (x.idleWorked (s.profileOf x)) s (s.idleWork x.identity) := by
  have hal : (reviseIdle (s.profileOf x) x).alarms = x.alarms := by rw [reviseIdle_eq]
  have hst : (reviseIdle (s.profileOf x) x).state = x.state := by rw [reviseIdle_eq]
  rw [idleWork_of_some h]
  unfold Record.idleWorked
  dsimp only
  split
  · rename_i hdue
    have hlive : x.state ≠ .lapsed := by
      rintro he
      simp [lapseDue, hst, he] at hdue
    exact endWork_lapse ((keysKept_reviseIdle (s.profileOf x)).comp keysKept_lapseRecord) hs h hal rfl hlive
  · exact endWork_update (keysKept_reviseIdle _) hs h hal (by rw [hst])

/-! ## The whole -/

/-- The record after the tests of a whole block (R47, R90, R159). -/
def Record.wholeWorked (p : Profile) (x : Record) : Record :=
  ((countConverged ((measureBlock p x).supervised p)).toneWorked p).idleWorked p

/-- The record after its block-end work (R34, R46, R47). -/
def Record.blockEnded (p : Profile) (x : Record) : Record :=
  if x.state = .lapsed then x
  else closeBlock (if isWhole x then x.clipDetected.wholeWorked p else x.clipDetected)

theorem countConverged_alarms (r : Record) : (countConverged r).alarms = r.alarms := by
  unfold countConverged
  split <;> rfl

theorem EndWork.named (h : EndWork x y s t) : t.recordOf y.identity = some y := h.identity ▸ h.own

theorem EndWork.profileOf (h : EndWork x y s t) : t.profileOf y = s.profileOf x := by
  rw [State.profileOf, State.profileOf, h.settings, h.profile]

/-- The tests are given the record as it stood before clip detection; convergence supervision comes before the tone and
idle tests (R159). -/
theorem wholeBlockWork_split (hs : s.TableSound) (h : s.recordOf x.identity = some x) (hi : r.identity = x.identity)
    (hp : s.profileOf r = s.profileOf x) :
    ∃ u, EndWork x (countConverged ((measureBlock (s.profileOf x) x).supervised (s.profileOf x))) s u ∧
      s.wholeBlockWork r = (u.toneWork x.identity).idleWork x.identity := by
  unfold State.wholeBlockWork
  rw [hi, hp]
  have h1 := endWork_update (keysKept_measureBlock (s.profileOf x)) hs h (by rw [measureBlock_eq])
    (by rw [measureBlock_state])
  have k2 := supervise_work h1.table h1.named
  rw [h1.identity, h1.profileOf] at k2
  have h2 := h1.trans k2
  have k3 := endWork_update keysKept_countConverged h2.table h2.named (countConverged_alarms _)
    (by rw [countConverged_state])
  rw [h2.identity] at k3
  exact ⟨_, h2.trans k3, rfl⟩

theorem EndWork.toneAndIdle (h : EndWork x y s t) :
    EndWork x ((y.toneWorked (s.profileOf x)).idleWorked (s.profileOf x)) s
      ((t.toneWork x.identity).idleWork x.identity) := by
  have k4 := toneWork_work h.table h.named
  rw [h.identity, h.profileOf] at k4
  have h4 := h.trans k4
  have k5 := idleWork_work h4.table h4.named
  rw [h4.identity, h4.profileOf] at k5
  exact h4.trans k5

theorem wholeBlockWork_work (hs : s.TableSound) (h : s.recordOf x.identity = some x) (hi : r.identity = x.identity)
    (hp : s.profileOf r = s.profileOf x) : EndWork x (x.wholeWorked (s.profileOf x)) s (s.wholeBlockWork r) := by
  obtain ⟨u, hu, hwork⟩ := wholeBlockWork_split hs h hi hp
  rw [hwork]
  exact hu.toneAndIdle

theorem recordBlockEnd_work (hs : s.TableSound) (h : s.recordOf x.identity = some x) :
    EndWork x (x.blockEnded (s.profileOf x)) s (s.recordBlockEnd x) := by
  unfold State.recordBlockEnd Record.blockEnded
  split
  · exact .refl hs h
  · have h1 := detectClip_work hs h
    have close {y : Record} {t : State} (hy : EndWork x y s t) :
        EndWork x (closeBlock y) s (t.update x.identity closeBlock) := by
      have k := endWork_update keysKept_closeBlock hy.table hy.named rfl .rfl
      rw [hy.identity] at k
      exact hy.trans k
    dsimp only
    split
    · have k2 := wholeBlockWork_work (r := x) h1.table h1.named h1.identity.symm
        (profileOf_eq_of_profile _ (clipDetected_profile x).symm)
      rw [h1.profileOf] at k2
      exact close (h1.trans k2)
    · exact close h1

/-! ## The work of every record -/

theorem positionBlockEnd_of_some {p : Position} (h : s.recordAt p = some x) :
    s.positionBlockEnd p = s.recordBlockEnd x := by
  simp only [State.positionBlockEnd, h]

theorem positionBlockEnd_of_none {p : Position} (h : s.recordAt p = none) : s.positionBlockEnd p = s := by
  simp only [State.positionBlockEnd, h]

/-- A record as block-end work that is not its own leaves it: windows granted to it, its search as it was (R124). -/
structure EndAside (x : Record) (s t : State) : Prop where
  table : t.TableSound
  granted : ∃ k, t.recordOf x.identity = some (x.granted k)
  searching : x.identity ∈ t.searching ↔ x.identity ∈ s.searching
  waiting : t.waiting ⊆ s.waiting
  settings : t.settings = s.settings
  summary : ∃ e, t.summary = s.summary ||| e

theorem EndAside.refl (hs : s.TableSound) (h : s.recordOf x.identity = some x) : EndAside x s s :=
  ⟨hs, ⟨0, h⟩, .rfl, fun _ h => h, rfl, 0, (BitVec.or_zero).symm⟩

/-- The work at positions that are not the record's. -/
theorem foldl_positionBlockEnd_aside (hs : s.TableSound) (h : s.recordOf x.identity = some x) {ps : List Position}
    (hps : x.position ∉ ps) : EndAside x s (ps.foldl State.positionBlockEnd s) := by
  induction ps generalizing s x with
  | nil => exact .refl hs h
  | cons p ps ih =>
    rw [List.mem_cons, not_or] at hps
    obtain ⟨hp, hps⟩ := hps
    rw [List.foldl_cons]
    cases hat : s.recordAt p with
    | none =>
      rw [positionBlockEnd_of_none hat]
      exact ih hs h hps
    | some w =>
      obtain ⟨hw, hwp⟩ := recordAt_some hat
      have hwork := recordBlockEnd_work hs ((recordOf_eq_some_iff hs).2 ⟨hw, rfl⟩)
      have hne : x.identity ≠ w.identity := fun he =>
        hp (hwp ▸ congrArg Record.position (eq_of_identity_eq hs (recordOf_some h).1 hw he))
      obtain ⟨j, hj⟩ := hwork.others _ hne x h
      have hrest := ih hwork.table (x := x.granted j) hj hps
      rw [positionBlockEnd_of_some hat]
      obtain ⟨k, hk⟩ := hrest.granted
      obtain ⟨e, he⟩ := hrest.summary
      exact ⟨hrest.table, ⟨j + k, granted_granted x j k ▸ hk⟩, hrest.searching.trans (hwork.searching _ hne),
        fun i hi => hwork.waiting (hrest.waiting hi), hrest.settings.trans hwork.settings,
        _, by rw [he, hwork.summary, BitVec.or_assoc]⟩

end Sys2Proof.Machine
end

section
/-! SUPPORT. What the block tests of a record read and leave (O18, O19). -/

namespace Sys2Proof.Machine

variable {p : Profile} {x r : Record}

/-! ## The conditions, as the obligations spell them out -/

theorem qualifies_iff : qualifies r = true ↔ r.Qualifying := by
  have hc : cancels r.state = true ↔ r.state = .settling ∨ r.state = .converged := cancels_iff
  simp only [qualifies, isWhole, Bool.and_eq_true, beq_iff_eq, hc, Bool.not_eq_true', Record.Qualifying]
  tauto

theorem classify_divergent : classify p r.block = .divergent ↔ r.DivergentUnder p := by
  unfold classify convergenceFloor
  split
  · rename_i h; exact iff_of_true rfl h
  · rename_i h
    refine iff_of_false ?_ h
    split
    · rintro ⟨⟩
    · split <;> rintro ⟨⟩

theorem classify_failing : classify p r.block = .failing ↔ ¬r.DivergentUnder p ∧ r.FailingUnder p := by
  unfold classify convergenceFloor
  split
  · rename_i h
    exact iff_of_false (by rintro ⟨⟩) fun ⟨hn, _⟩ => hn h
  · rename_i hn
    split
    · rename_i h; exact iff_of_true rfl ⟨hn, h⟩
    · rename_i h
      refine iff_of_false ?_ fun ⟨_, hf⟩ => h hf
      split <;> rintro ⟨⟩

theorem classify_passing : classify p r.block = .passing ↔
    ¬r.DivergentUnder p ∧ ¬r.FailingUnder p ∧ r.PassingUnder p := by
  unfold classify convergenceFloor
  split
  · rename_i h
    exact iff_of_false (by rintro ⟨⟩) fun ⟨hn, _⟩ => hn h
  · rename_i hn
    split
    · rename_i h
      exact iff_of_false (by rintro ⟨⟩) fun ⟨_, hnf, _⟩ => hnf h
    · rename_i hnf
      split
      · rename_i h; exact iff_of_true rfl ⟨hn, hnf, h⟩
      · rename_i h; exact iff_of_false (by rintro ⟨⟩) fun ⟨_, _, hp⟩ => h hp

/-- A block that passes does not fail (R82). -/
theorem not_failing_of_passing (h : r.PassingUnder p) : ¬r.FailingUnder p := by
  rintro ⟨hfloor, hfail⟩
  rcases h with h | h <;> omega

/-! ## The measurements -/

/-- The record as convergence supervision finds it. -/
def Record.measured (p : Profile) (x : Record) : Record := measureBlock p x.clipDetected

theorem measured_eq (p : Profile) (x : Record) : x.measured p =
    { x with
      background := (x.measured p).background, gainIn := (x.measured p).gainIn, gainOut := (x.measured p).gainOut
      tallies := (x.measured p).tallies, alarms := (x.measured p).alarms } := by
  unfold Record.measured Record.clipDetected
  rw [measureBlock_eq]
  split <;> rfl

@[simp] theorem measured_block (p : Profile) (x : Record) : (x.measured p).block = x.block := by rw [measured_eq]
@[simp] theorem measured_state (p : Profile) (x : Record) : (x.measured p).state = x.state := by rw [measured_eq]
@[simp] theorem measured_passCount (p : Profile) (x : Record) : (x.measured p).passCount = x.passCount := by
  rw [measured_eq]
@[simp] theorem measured_failCount (p : Profile) (x : Record) : (x.measured p).failCount = x.failCount := by
  rw [measured_eq]
@[simp] theorem measured_held (p : Profile) (x : Record) : (x.measured p).held = x.held := by rw [measured_eq]
@[simp] theorem measured_unplaced (p : Profile) (x : Record) : (x.measured p).unplaced = x.unplaced := by
  rw [measured_eq]

theorem measured_alarms (p : Profile) (x : Record) :
    (x.measured p).alarms = x.alarms ||| (if x.block.clip then 0x4 else 0x0) := by
  unfold Record.measured Record.clipDetected
  rw [measureBlock_eq]
  split
  · rfl
  · exact (BitVec.or_zero).symm

theorem measured_qualifies (p : Profile) (x : Record) : qualifies (x.measured p) = qualifies x := by
  rw [measured_eq]
  rfl

/-- The tallies that only convergence supervision counts are as they were (R76, R134). -/
theorem measured_tallies (p : Profile) (x : Record) :
    (x.measured p).tallies.convergedBlocks = x.tallies.convergedBlocks ∧
      (x.measured p).tallies.pathChanges = x.tallies.pathChanges ∧
      (x.measured p).tallies.divergences = x.tallies.divergences := by
  unfold Record.measured Record.clipDetected
  rw [measureBlock_eq]
  split <;> exact ⟨rfl, rfl, rfl⟩

/-! ## Convergence supervision -/

/-- Two records that the tone, quiet and idle tests cannot tell apart, but for their states. -/
structure SameTests (x y : Record) : Prop where
  block : y.block = x.block
  toneCount : y.toneCount = x.toneCount
  quietCount : y.quietCount = x.quietCount
  idleCount : y.idleCount = x.idleCount
  resume : y.resume = x.resume

theorem SameTests.trans {y z : Record} (h : SameTests x y) (k : SameTests y z) : SameTests x z :=
  ⟨k.block.trans h.block, k.toneCount.trans h.toneCount, k.quietCount.trans h.quietCount,
    k.idleCount.trans h.idleCount, k.resume.trans h.resume⟩

theorem sameTests_measured (p : Profile) (x : Record) : SameTests x (x.measured p) := by
  rw [measured_eq]
  exact ⟨rfl, rfl, rfl, rfl, rfl⟩

theorem sameTests_echoTested (x : Record) : SameTests x x.echoTested := by
  unfold Record.echoTested
  split <;> exact ⟨rfl, rfl, rfl, rfl, rfl⟩

theorem sameTests_handled (x : Record) (c : BlockClass) : SameTests x (x.handled c) := by
  cases c with
  | divergent => exact ⟨rfl, rfl, rfl, rfl, rfl⟩
  | passing =>
    unfold Record.handled
    dsimp only
    split <;> exact ⟨rfl, rfl, rfl, rfl, rfl⟩
  | failing =>
    unfold Record.handled
    dsimp only
    split <;> exact ⟨rfl, rfl, rfl, rfl, rfl⟩
  | marginal => exact ⟨rfl, rfl, rfl, rfl, rfl⟩

theorem sameTests_supervised (p : Profile) (x : Record) : SameTests x (x.supervised p) := by
  unfold Record.supervised
  split
  · exact (sameTests_echoTested x).trans (sameTests_handled _ _)
  · exact ⟨rfl, rfl, rfl, rfl, rfl⟩

theorem sameTests_countConverged (x : Record) : SameTests x (countConverged x) := by
  unfold countConverged
  split <;> exact ⟨rfl, rfl, rfl, rfl, rfl⟩

/-- The record as the tone and idle tests find it. -/
def Record.judged (p : Profile) (x : Record) : Record := countConverged ((x.measured p).supervised p)

theorem sameTests_judged (p : Profile) (x : Record) : SameTests x (x.judged p) :=
  ((sameTests_measured p x).trans (sameTests_supervised p _)).trans (sameTests_countConverged _)

theorem handled_alarms (x : Record) (c : BlockClass) :
    (x.handled c).alarms = x.alarms ||| (if c = .divergent then 0x1 else 0x0) := by
  cases c with
  | divergent => rfl
  | passing =>
    unfold Record.handled
    dsimp only
    split <;> exact (BitVec.or_zero).symm
  | failing =>
    unfold Record.handled
    dsimp only
    split <;> exact (BitVec.or_zero).symm
  | marginal => exact (BitVec.or_zero).symm

theorem echoTested_alarms (x : Record) :
    x.echoTested.alarms = x.alarms ||| (if x.block.energyOut < x.block.energyIn * 4 then 0x2 else 0x0) := by
  unfold Record.echoTested echoIsStrong
  by_cases h : x.block.energyOut < x.block.energyIn * 4
  · rw [if_pos (decide_eq_true h), if_pos h]; rfl
  · rw [if_neg (by simpa using h), if_neg h]; exact (BitVec.or_zero).symm

/-- The alarms that a whole block's work adds (R46, R83, R88). -/
theorem judged_alarms (p : Profile) (x : Record) : (x.judged p).alarms = x.alarms |||
    (if x.block.clip then 0x4 else 0x0) |||
    (if x.Qualifying ∧ x.block.energyOut < x.block.energyIn * 4 then 0x2 else 0x0) |||
    (if x.Qualifying ∧ x.DivergentUnder p then 0x1 else 0x0) := by
  rw [Record.judged, countConverged_alarms, ← measured_alarms p]
  unfold Record.supervised
  rw [measured_qualifies]
  by_cases hq : qualifies x = true
  · have hq' := qualifies_iff.1 hq
    rw [if_pos hq, handled_alarms, echoTested_alarms, measured_block]
    have hecho : (if x.Qualifying ∧ x.block.energyOut < x.block.energyIn * 4 then 0x2 else 0x0 : AlarmSet) =
        if x.block.energyOut < x.block.energyIn * 4 then 0x2 else 0x0 := if_congr (and_iff_right hq') rfl rfl
    have hdiverged : (if x.Qualifying ∧ x.DivergentUnder p then 0x1 else 0x0 : AlarmSet) =
        if classify p x.block = .divergent then 0x1 else 0x0 :=
      if_congr ((and_iff_right hq').trans classify_divergent.symm) rfl rfl
    rw [hecho, hdiverged]
  · have hq' : ¬x.Qualifying := fun h => hq (qualifies_iff.2 h)
    rw [if_neg hq, if_neg fun h => hq' h.1, if_neg fun h => hq' h.1]
    exact (BitVec.or_zero.trans BitVec.or_zero).symm

theorem promotionDue_passBlock (r : Record) :
    promotionDue (passBlock r) = true ↔ r.state = .settling ∧ 3 ≤ r.passCount := by
  unfold promotionDue
  rw [Bool.and_eq_true, beq_iff_eq, decide_eq_true_iff]
  refine and_congr_right fun _ => ?_
  change 4 ≤ min 4 (r.passCount + 1) ↔ _
  omega

theorem pathChangeDue_failBlock (r : Record) :
    pathChangeDue (failBlock r) = true ↔ r.state = .converged ∧ 8 ≤ r.failCount + 1 := by
  unfold pathChangeDue
  rw [Bool.and_eq_true, beq_iff_eq, decide_eq_true_iff]
  refine and_congr_right fun h : r.state = .converged => ?_
  change 8 ≤ (if r.state = .converged then r.failCount + 1 else r.failCount) ↔ _
  rw [if_pos h]

/-- The state that the handling of a qualifying block leaves (R83 to R86). -/
theorem handled_state (hq : x.Qualifying) {y : Record} (hst : y.state = x.state) (hpass : y.passCount = x.passCount)
    (hfail : y.failCount = x.failCount) : (y.handled (classify p x.block)).state = x.stateLeft p := by
  unfold Record.stateLeft
  by_cases hd : x.DivergentUnder p
  · rw [classify_divergent.2 hd, if_pos ⟨hq, hd⟩]
    rfl
  · rw [if_neg fun h => hd h.2]
    by_cases hf : x.FailingUnder p
    · rw [classify_failing.2 ⟨hd, hf⟩]
      have hnp : ¬x.PassingUnder p := fun h => not_failing_of_passing h hf
      have hdue := pathChangeDue_failBlock y
      rw [hst, hfail] at hdue
      by_cases hc : x.state = .converged ∧ 8 ≤ x.failCount + 1
      · rw [if_pos (⟨hq, hd, hf, hc⟩ : x.PathChanges p)]
        unfold Record.handled
        dsimp only
        rw [if_pos (hdue.2 hc)]
        rfl
      · rw [if_neg fun h : x.PathChanges p => hc h.2.2.2, if_neg fun h => hnp h.2.1]
        unfold Record.handled
        dsimp only
        rw [if_neg fun h => hc (hdue.1 h)]
        exact hst
    · rw [if_neg fun h : x.PathChanges p => hf h.2.2.1]
      by_cases hp : x.PassingUnder p
      · rw [classify_passing.2 ⟨hd, hf, hp⟩]
        have hdue := promotionDue_passBlock y
        rw [hst, hpass] at hdue
        by_cases hc : x.state = .settling ∧ 3 ≤ x.passCount
        · rw [if_pos ⟨hq, hp, hc⟩]
          unfold Record.handled
          dsimp only
          rw [if_pos (hdue.2 hc)]
          rfl
        · rw [if_neg fun h => hc h.2.2]
          unfold Record.handled
          dsimp only
          rw [if_neg fun h => hc (hdue.1 h)]
          exact hst
      · rw [if_neg fun h => hp h.2.1]
        have hm : classify p x.block = .marginal := by
          cases hc : classify p x.block with
          | divergent => exact absurd (classify_divergent.1 hc) hd
          | failing => exact absurd (classify_failing.1 hc).2 hf
          | passing => exact absurd (classify_passing.1 hc).2.2 hp
          | marginal => rfl
        rw [hm]
        exact hst

theorem echoTested_eq (x : Record) : x.echoTested = { x with alarms := x.echoTested.alarms } := by
  unfold Record.echoTested
  split <;> rfl

/-- The state that convergence supervision leaves (R83 to R86). -/
theorem judged_state (p : Profile) (x : Record) : (x.judged p).state = x.stateLeft p := by
  rw [Record.judged, countConverged_state]
  unfold Record.supervised
  rw [measured_qualifies]
  by_cases hq : qualifies x = true
  · rw [if_pos hq, measured_block]
    refine handled_state (qualifies_iff.1 hq) ?_ ?_ ?_
    · rw [echoTested_state, measured_state]
    · rw [echoTested_eq]; exact measured_passCount p x
    · rw [echoTested_eq]; exact measured_failCount p x
  · have hq' : ¬x.Qualifying := fun h => hq (qualifies_iff.2 h)
    unfold Record.stateLeft
    rw [if_neg hq, if_neg fun h => hq' h.1, if_neg fun h : x.PathChanges p => hq' h.1, if_neg fun h => hq' h.1,
      measured_state]

end Sys2Proof.Machine
end

section
/-! SUPPORT. The tone, quiet and idle tests of a whole block (O18). -/

namespace Sys2Proof.Machine

variable {p : Profile} {x q : Record}

/-! ## The conditions -/

theorem nextToneCount_eq (h : SameTests x q) : nextToneCount p q = if x.ToneUnder p then x.toneCount + 1 else 0 := by
  have hiff : (p.toneBypassOn && (toneLike p q.block.changesTin q.block.sumTin ||
      toneLike p q.block.changesXin q.block.sumXin)) = true ↔ x.ToneUnder p := by
    rw [h.block]
    simp only [toneLike, Bool.and_eq_true, Bool.or_eq_true, decide_eq_true_eq, Record.ToneUnder]
    unfold meanMagnitude
    tauto
  unfold nextToneCount
  rw [h.toneCount]
  exact if_congr hiff rfl rfl

theorem quietBlock_iff (h : q.block = x.block) : quietBlock p q = true ↔ x.QuietUnder p := by
  simp only [quietBlock, meanMagnitude, h, Bool.and_eq_true, decide_eq_true_eq, Record.QuietUnder]

theorem stateLeft_of_cancels (h : x.state = .settling ∨ x.state = .converged) :
    x.stateLeft p = .settling ∨ x.stateLeft p = .converged := by
  unfold Record.stateLeft
  split
  · exact .inl rfl
  · split
    · exact .inl rfl
    · split
      · exact .inr rfl
      · exact h

theorem stateLeft_of_not_cancels (h : ¬(x.state = .settling ∨ x.state = .converged)) : x.stateLeft p = x.state := by
  have hq : ¬x.Qualifying := fun hq => h hq.2.2.2.1
  unfold Record.stateLeft
  rw [if_neg fun k => hq k.1, if_neg fun k : x.PathChanges p => hq k.1, if_neg fun k => hq k.1]

/-! ## The tone tests -/

theorem reviseToneOrQuiet_of_cancels (h : q.state = .settling ∨ q.state = .converged) :
    reviseToneOrQuiet p q = { q with toneCount := nextToneCount p q } := by
  rcases h with h | h <;> simp only [reviseToneOrQuiet, h]

theorem reviseToneOrQuiet_of_bypass (h : q.state = .bypass) :
    reviseToneOrQuiet p q = { q with quietCount := if quietBlock p q then q.quietCount + 1 else 0 } := by
  simp only [reviseToneOrQuiet, h]

theorem reviseToneOrQuiet_of_transparent (h : q.state = .transparent) : reviseToneOrQuiet p q = q := by
  simp only [reviseToneOrQuiet, h]

/-- The record as the idle test finds it. -/
def Record.toned (p : Profile) (x : Record) : Record := (x.judged p).toneWorked p

/-- A cancelling record with its tone count revised (R152). -/
def Record.toneCounted (p : Profile) (x : Record) : Record :=
  { x.judged p with toneCount := if x.ToneUnder p then x.toneCount + 1 else 0 }

/-- A BYPASS record with its quiet count revised (R154). -/
def Record.quietCounted (p : Profile) (x : Record) : Record :=
  { x.measured p with quietCount := if x.QuietUnder p then x.quietCount + 1 else 0 }

theorem judged_cancels (h : x.state = .settling ∨ x.state = .converged) :
    (x.judged p).state = .settling ∨ (x.judged p).state = .converged := by
  rw [judged_state]
  exact stateLeft_of_cancels h

theorem revise_judged_of_cancels (h : x.state = .settling ∨ x.state = .converged) :
    reviseToneOrQuiet p (x.judged p) = x.toneCounted p := by
  rw [reviseToneOrQuiet_of_cancels (judged_cancels h), nextToneCount_eq (sameTests_judged p x)]
  rfl

theorem bypassDue_toneCounted (h : x.state = .settling ∨ x.state = .converged) :
    bypassDue (x.toneCounted p) = true ↔ x.EntersUnder p := by
  have hc : cancels (x.toneCounted p).state = true := cancels_iff.2 (judged_cancels h)
  unfold bypassDue
  rw [hc, Bool.true_and, decide_eq_true_iff]
  change 50 ≤ (if x.ToneUnder p then x.toneCount + 1 else 0) ↔ _
  by_cases ht : x.ToneUnder p
  · rw [if_pos ht]
    exact ⟨fun h50 => ⟨h, ht, h50⟩, fun hE => hE.2.2⟩
  · rw [if_neg ht]
    exact iff_of_false (by omega) fun hE => ht hE.2.1

theorem toned_of_cancels (h : x.state = .settling ∨ x.state = .converged) :
    x.toned p = if x.EntersUnder p then bypassRecord (x.toneCounted p) else x.toneCounted p := by
  have hreturn : returnDue (x.toneCounted p) = false := by
    have : (x.toneCounted p).state ≠ .bypass := by
      change (x.judged p).state ≠ .bypass
      rcases judged_cancels (p := p) h with hl | hl <;> rw [hl] <;> rintro ⟨⟩
    simp [returnDue, this]
  unfold Record.toned Record.toneWorked
  rw [revise_judged_of_cancels h]
  dsimp only
  rw [hreturn, if_neg Bool.false_ne_true]
  exact if_congr (bypassDue_toneCounted h) rfl rfl

theorem judged_of_not_cancels (h : ¬(x.state = .settling ∨ x.state = .converged)) : x.judged p = x.measured p := by
  have hc : cancels (x.measured p).state = false := by
    rw [measured_state, Bool.eq_false_iff]
    exact fun hc => h (cancels_iff.1 hc)
  unfold Record.judged countConverged
  rw [supervised_state_of_not_cancels hc, measured_state, if_neg fun he => h (.inr he)]

theorem judged_of_bypass (h : x.state = .bypass) : x.judged p = x.measured p :=
  judged_of_not_cancels (by simp [h])

theorem revise_judged_of_bypass (h : x.state = .bypass) : reviseToneOrQuiet p (x.judged p) = x.quietCounted p := by
  rw [judged_of_bypass h, reviseToneOrQuiet_of_bypass ((measured_state p x).trans h), (sameTests_measured p x).quietCount]
  exact congrArg (fun n => { x.measured p with quietCount := n })
    (if_congr (quietBlock_iff (measured_block p x)) rfl rfl)

theorem returnDue_quietCounted (h : x.state = .bypass) : returnDue (x.quietCounted p) = true ↔ x.ReturnsUnder p := by
  have hst : (x.measured p).state = .bypass := (measured_state p x).trans h
  unfold returnDue
  rw [Bool.and_eq_true, beq_iff_eq, decide_eq_true_iff]
  change (x.measured p).state = .bypass ∧ 32 ≤ (if x.QuietUnder p then x.quietCount + 1 else 0) ↔ _
  by_cases hq : x.QuietUnder p
  · rw [if_pos hq]
    exact ⟨fun ⟨_, h32⟩ => ⟨h, hq, h32⟩, fun hR => ⟨hst, hR.2.2⟩⟩
  · rw [if_neg hq]
    exact iff_of_false (by omega) fun hR => hq hR.2.1

theorem toned_of_bypass (h : x.state = .bypass) :
    x.toned p = if x.ReturnsUnder p then returnRecord (x.quietCounted p) else x.quietCounted p := by
  have hbypass : bypassDue (x.quietCounted p) = false := by
    have hc : cancels (x.quietCounted p).state = false := by
      rw [show (x.quietCounted p).state = .bypass from (measured_state p x).trans h]
      rfl
    rw [bypassDue, hc, Bool.false_and]
  unfold Record.toned Record.toneWorked
  rw [revise_judged_of_bypass h]
  dsimp only
  rw [hbypass, if_neg Bool.false_ne_true]
  exact if_congr (returnDue_quietCounted h) rfl rfl

theorem toned_of_transparent (h : x.state = .transparent) : x.toned p = x.measured p := by
  have hn : ¬(x.state = .settling ∨ x.state = .converged) := by simp [h]
  have hst : (x.measured p).state = .transparent := (measured_state p x).trans h
  unfold Record.toned Record.toneWorked
  rw [judged_of_not_cancels hn, reviseToneOrQuiet_of_transparent hst]
  simp [returnDue, bypassDue, h, cancels]

/-! ## The idle test -/

theorem toned_idle (p : Profile) (x : Record) :
    (x.toned p).block = x.block ∧ (x.toned p).idleCount = x.idleCount := by
  have hj := sameTests_judged p x
  have key (q : Record) : (q.toneWorked p).block = q.block ∧ (q.toneWorked p).idleCount = q.idleCount := by
    have hr : (reviseToneOrQuiet p q).block = q.block ∧ (reviseToneOrQuiet p q).idleCount = q.idleCount := by
      unfold reviseToneOrQuiet
      split <;> exact ⟨rfl, rfl⟩
    unfold Record.toneWorked
    dsimp only
    split
    · exact hr
    · split <;> exact hr
  exact ⟨(key _).1.trans hj.block, (key _).2.trans hj.idleCount⟩

theorem toned_ne_lapsed (h : x.state ≠ .lapsed) : (x.toned p).state ≠ .lapsed := by
  refine toneWorked_ne_lapsed ?_
  rw [judged_state]
  by_cases hc : x.state = .settling ∨ x.state = .converged
  · rcases stateLeft_of_cancels (p := p) hc with he | he <;> rw [he] <;> rintro ⟨⟩
  · rwa [stateLeft_of_not_cancels hc]

/-- The idle count after a whole block (R156). -/
def Record.idleAfter (p : Profile) (x : Record) : Nat :=
  if p.idleLimit ≠ 0 ∧ x.QuietUnder p then x.idleCount + 1 else 0

theorem reviseIdle_toned (p : Profile) (x : Record) : reviseIdle p (x.toned p) =
    { x.toned p with
      idleCount := x.idleAfter p
      block := { x.block with idleRose := decide (p.idleLimit ≠ 0 ∧ x.QuietUnder p) } } := by
  obtain ⟨hb, hi⟩ := toned_idle p x
  have hq := quietBlock_iff (p := p) hb
  rw [reviseIdle_eq, hi, hb]
  simp only [hq]
  rfl

theorem lapseDue_toned (h : x.state ≠ .lapsed) :
    lapseDue p (reviseIdle p (x.toned p)) = true ↔ x.LapsesUnder p := by
  rw [reviseIdle_toned]
  unfold lapseDue
  rw [Bool.and_eq_true, Bool.and_eq_true, Bool.and_eq_true, bne_iff_ne, decide_eq_true_iff, decide_eq_true_iff,
    decide_eq_true_iff]
  change (((x.toned p).state ≠ .lapsed ∧ p.idleLimit ≠ 0 ∧ x.QuietUnder p) ∧ p.idleLimit ≠ 0) ∧
    p.idleLimit * 125 ≤ x.idleAfter p ↔ _
  rw [Record.idleAfter]
  by_cases hq : p.idleLimit ≠ 0 ∧ x.QuietUnder p
  · rw [if_pos hq]
    exact ⟨fun ⟨_, hle⟩ => ⟨hq.1, hq.2, hle⟩, fun ⟨_, _, hle⟩ => ⟨⟨⟨toned_ne_lapsed h, hq⟩, hq.1⟩, hle⟩⟩
  · exact iff_of_false (fun k => hq k.1.1.2) fun k => hq ⟨k.1, k.2.1⟩

/-! ## The whole block -/

/-- A record at the end of its whole block (R47, R90, R156, R159). -/
theorem blockEnded_of_whole (h : x.state ≠ .lapsed) (hw : x.block.live = 64) : x.blockEnded p =
    closeBlock (if x.LapsesUnder p then (lapseRecord (reviseIdle p (x.toned p))).emptied
      else reviseIdle p (x.toned p)) := by
  have hwhole : isWhole x = true := by simp [isWhole, hw]
  unfold Record.blockEnded
  rw [if_neg h, if_pos hwhole]
  refine congrArg closeBlock ?_
  exact if_congr (lapseDue_toned h) rfl rfl

theorem blockEnded_of_partial (h : x.state ≠ .lapsed) (hw : x.block.live ≠ 64) :
    x.blockEnded p = closeBlock x.clipDetected := by
  have hpart : ¬isWhole x = true := by simp [isWhole, hw]
  unfold Record.blockEnded
  rw [if_neg h, if_neg hpart]

end Sys2Proof.Machine
end

section
/-! SUPPORT. The end of a whole block as the search unit and the pool see it (O18, O19). -/

namespace Sys2Proof.Machine

variable {s t u : State} {p : Profile} {x r : Record}

/-! ## The search unit -/

theorem recordBlockEnd_split (hs : s.TableSound) (h : s.recordOf x.identity = some x) (hl : x.state ≠ .lapsed)
    (hw : x.block.live = 64) :
    ∃ u, EndWork x (x.judged (s.profileOf x)) s u ∧
      s.recordBlockEnd x = ((u.toneWork x.identity).idleWork x.identity).update x.identity closeBlock := by
  have hwhole : isWhole x = true := by simp [isWhole, hw]
  have h1 := detectClip_work hs h
  obtain ⟨u, hu, hwork⟩ := wholeBlockWork_split (r := x) h1.table h1.named h1.identity.symm
    (profileOf_eq_of_profile _ (clipDetected_profile x).symm)
  rw [h1.profileOf] at hu
  rw [h1.identity] at hwork
  refine ⟨u, h1.trans hu, ?_⟩
  unfold State.recordBlockEnd
  rw [if_neg hl]
  dsimp only
  rw [if_pos hwhole, hwork]

theorem toneWork_of_enters (h : EndWork x (x.judged (s.profileOf x)) s u) (hE : x.EntersUnder (s.profileOf x)) :
    x.identity ∉ (u.toneWork x.identity).searching := by
  have hne : (x.judged (s.profileOf x)).state ≠ .bypass := by
    rcases judged_cancels (p := s.profileOf x) hE.1 with he | he <;> rw [he] <;> rintro ⟨⟩
  rw [toneWork_of_not_bypass h.own hne, h.profileOf, revise_judged_of_cancels hE.1,
    if_pos ((bypassDue_toneCounted hE.1).2 hE), mem_searching_cancelSearch]
  exact fun hmem => hmem.2 rfl

theorem toneWork_of_returns (h : EndWork x (x.judged (s.profileOf x)) s u) (hR : x.ReturnsUnder (s.profileOf x))
    (hreq : returnRequests (s.profileOf x) (x.quietCounted (s.profileOf x)) = true) :
    x.identity ∈ (u.toneWork x.identity).searching := by
  have hst : (x.judged (s.profileOf x)).state = .bypass := by
    rw [judged_of_bypass hR.1, measured_state]
    exact hR.1
  rw [toneWork_of_bypass h.own hst]
  dsimp only
  rw [h.profileOf, revise_judged_of_bypass hR.1, if_pos ((returnDue_quietCounted hR.1).2 hR), if_pos hreq,
    mem_searching_request]
  exact .inr rfl

theorem not_mem_waiting_releaseAll {id : Identity} (h : s.recordOf id = some r) : id ∉ (s.releaseAll id).waiting := by
  intro hmem
  have := grantAll_waiting_subset _ hmem
  rw [returnWindows_eq h] at this
  simp at this

/-- The idle test as the search unit and the waiting list see it (R157). -/
theorem idleWork_searching (h : s.recordOf x.identity = some x) :
    (lapseDue (s.profileOf x) (reviseIdle (s.profileOf x) x) = true →
      x.identity ∉ (s.idleWork x.identity).searching ∧ x.identity ∉ (s.idleWork x.identity).waiting) ∧
    (¬lapseDue (s.profileOf x) (reviseIdle (s.profileOf x) x) = true →
      (s.idleWork x.identity).searching = s.searching) := by
  refine ⟨fun hdue => ?_, fun hdue => ?_⟩
  · rw [idleWork_of_some h, if_pos hdue]
    refine ⟨fun hmem => ?_, fun hmem => ?_⟩
    · exact (mem_searching_cancelSearch.1 hmem).2 rfl
    · have hown := recordOf_update_self (f := fun y => lapseRecord (reviseIdle (s.profileOf x) y))
        (fun y => reviseIdle_identity y _) h
      exact not_mem_waiting_releaseAll hown ((cancelSearch_waiting _ _) ▸ hmem)
  · rw [idleWork_of_some h, if_neg hdue]
    rfl

/-- What the tests of a whole block leave of the record's search and of its place in the waiting list (R153, R154,
R157). -/
theorem recordBlockEnd_searching (hs : s.TableSound) (h : s.recordOf x.identity = some x) (hl : x.state ≠ .lapsed)
    (hw : x.block.live = 64) :
    (x.LapsesUnder (s.profileOf x) →
      x.identity ∉ (s.recordBlockEnd x).searching ∧ x.identity ∉ (s.recordBlockEnd x).waiting) ∧
    (¬x.LapsesUnder (s.profileOf x) → x.EntersUnder (s.profileOf x) → x.identity ∉ (s.recordBlockEnd x).searching) ∧
    (¬x.LapsesUnder (s.profileOf x) → x.ReturnsUnder (s.profileOf x) →
      returnRequests (s.profileOf x) (x.quietCounted (s.profileOf x)) = true →
      x.identity ∈ (s.recordBlockEnd x).searching) := by
  obtain ⟨u, hu, hwork⟩ := recordBlockEnd_split hs h hl hw
  have k4 := toneWork_work hu.table hu.named
  rw [hu.identity, hu.profileOf] at k4
  have h4 := hu.trans k4
  have hidle := idleWork_searching h4.named
  rw [h4.profileOf, h4.identity] at hidle
  obtain ⟨hlapse, hstay⟩ := hidle
  have hdue := lapseDue_toned (p := s.profileOf x) hl
  rw [hwork]
  refine ⟨fun hL => hlapse (hdue.2 hL), fun hL hE => ?_, fun hL hR hreq => ?_⟩
  · change x.identity ∉ ((u.toneWork x.identity).idleWork x.identity).searching
    rw [hstay fun hd => hL (hdue.1 hd)]
    exact toneWork_of_enters hu hE
  · change x.identity ∈ ((u.toneWork x.identity).idleWork x.identity).searching
    rw [hstay fun hd => hL (hdue.1 hd)]
    exact toneWork_of_returns hu hR hreq

/-! ## The block end around one record -/

/-- The block-end work of the record at its turn, between the work before it and the work after it (R34). -/
theorem endBlock_around (hs : s.TableSound) (hr : r ∈ s.records) :
    ∃ u j, EndAside r s u ∧ u.recordOf r.identity = some (r.granted j) ∧ u.profileOf r = s.profileOf r ∧
      EndWork (r.granted j) ((r.granted j).blockEnded (s.profileOf r)) u (u.recordBlockEnd (r.granted j)) ∧
      EndAside ((r.granted j).blockEnded (s.profileOf r)) (u.recordBlockEnd (r.granted j))
        (allPositions.foldl State.positionBlockEnd s) := by
  have hmem : r.position ∈ allPositions := List.mem_finRange _
  obtain ⟨before, after, hsplit⟩ := List.append_of_mem hmem
  have hnd : (before ++ r.position :: after).Nodup := hsplit ▸ List.nodup_finRange 128
  have hb : r.position ∉ before := fun hb => (List.nodup_append.1 hnd).2.2 _ hb _ List.mem_cons_self rfl
  have ha : r.position ∉ after := (List.nodup_cons.1 (List.nodup_append.1 hnd).2.1).1
  have hr' := (recordOf_eq_some_iff hs).2 ⟨hr, rfl⟩
  have hbefore := foldl_positionBlockEnd_aside hs hr' hb
  obtain ⟨j, hj⟩ := hbefore.granted
  have hp : (before.foldl State.positionBlockEnd s).profileOf r = s.profileOf r := by
    rw [State.profileOf, hbefore.settings]
    rfl
  have hwork := recordBlockEnd_work hbefore.table (x := r.granted j) hj
  have hat := (recordAt_eq_some_iff hbefore.table).2 ⟨(recordOf_some hj).1, rfl⟩
  rw [show (List.foldl State.positionBlockEnd s before).profileOf (r.granted j) = s.profileOf r from hp] at hwork
  have hafter := foldl_positionBlockEnd_aside (x := (r.granted j).blockEnded (s.profileOf r)) hwork.table hwork.named
    (ps := after) (by rw [hwork.position]; exact ha)
  refine ⟨before.foldl State.positionBlockEnd s, j, hbefore, hj, hp, hwork, ?_⟩
  rw [hsplit, List.foldl_append, List.foldl_cons, positionBlockEnd_of_some (p := r.position) hat]
  exact hafter

theorem exec_blockEnd (hrun : s.running = true) (hdue : s.blockEndDue = true) :
    exec .blockEnd s = .next { allPositions.foldl State.positionBlockEnd s with blockEndDue := false } := by
  refine (whileRunning_of_running hrun State.endBlock).trans ?_
  rw [State.endBlock, if_pos hdue]

end Sys2Proof.Machine
end

section
/-! SUPPORT. A record at the end of its whole block, field by field (O18). -/

namespace Sys2Proof.Machine

variable {s t : State} {p : Profile} {x r : Record}

/-! ## After the tone tests -/

theorem state_cases (h : x.state ≠ .lapsed) :
    (x.state = .settling ∨ x.state = .converged) ∨ x.state = .bypass ∨ x.state = .transparent := by
  cases hx : x.state <;> simp_all

theorem not_cancels_of_bypass (h : x.state = .bypass) : ¬(x.state = .settling ∨ x.state = .converged) := by
  rw [h]
  rintro (⟨⟨⟩⟩ | ⟨⟨⟩⟩)

theorem not_cancels_of_transparent (h : x.state = .transparent) : ¬(x.state = .settling ∨ x.state = .converged) := by
  rw [h]
  rintro (⟨⟨⟩⟩ | ⟨⟨⟩⟩)

theorem toned_toneCount (h : x.state ≠ .lapsed) : (x.toned p).toneCount =
    if x.state = .settling ∨ x.state = .converged then (if x.ToneUnder p then x.toneCount + 1 else 0)
    else if x.ReturnsUnder p then 0 else x.toneCount := by
  have hm := (sameTests_measured p x).toneCount
  rcases state_cases h with hc | hb | ht
  · rw [toned_of_cancels hc, if_pos hc]
    split <;> rfl
  · rw [toned_of_bypass hb, if_neg (not_cancels_of_bypass hb)]
    by_cases hR : x.ReturnsUnder p
    · rw [if_pos hR, if_pos hR]
      rfl
    · rw [if_neg hR, if_neg hR]
      exact hm
  · rw [toned_of_transparent ht, if_neg (not_cancels_of_transparent ht), if_neg fun hR : x.ReturnsUnder p => by simp [hR.1] at ht]
    exact hm

theorem toned_quietCount (h : x.state ≠ .lapsed) : (x.toned p).quietCount =
    if x.state = .settling ∨ x.state = .converged then (if x.EntersUnder p then 0 else x.quietCount)
    else if x.state = .bypass then (if x.QuietUnder p ∧ ¬x.ReturnsUnder p then x.quietCount + 1 else 0)
    else x.quietCount := by
  rcases state_cases h with hc | hb | ht
  · rw [toned_of_cancels hc, if_pos hc]
    split
    · rfl
    · exact (sameTests_judged p x).quietCount
  · rw [toned_of_bypass hb, if_neg (not_cancels_of_bypass hb), if_pos hb]
    by_cases hR : x.ReturnsUnder p
    · rw [if_pos hR, if_neg fun hn => hn.2 hR]
      rfl
    · rw [if_neg hR]
      exact if_congr (and_iff_left hR).symm rfl rfl
  · have hnb : x.state ≠ .bypass := by rw [ht]; rintro ⟨⟩
    rw [toned_of_transparent ht, if_neg (not_cancels_of_transparent ht), if_neg hnb]
    exact (sameTests_measured p x).quietCount

theorem toned_of_enters (h : x.EntersUnder p) : (x.toned p).state = .bypass ∧
    (x.toned p).resume = some (if x.stateLeft p = .converged then .converged else .settling) := by
  rw [toned_of_cancels h.1, if_pos h]
  refine ⟨rfl, congrArg some ?_⟩
  change resumeOf (x.judged p).state = _
  rw [judged_state]
  rcases stateLeft_of_cancels (p := p) h.1 with he | he <;> rw [he] <;> rfl

theorem toned_of_returns (h : x.ReturnsUnder p) :
    (x.toned p).state = returnState (x.quietCounted p) ∧ (x.toned p).resume = none ∧
      returnState (x.quietCounted p) = (x.resume.map ResumeState.toState).getD .settling := by
  rw [toned_of_bypass h.1, if_pos h]
  refine ⟨rfl, rfl, ?_⟩
  change ((x.measured p).resume.map ResumeState.toState).getD .settling = _
  rw [(sameTests_measured p x).resume]

theorem toned_of_neither (h : x.state ≠ .lapsed) (hE : ¬x.EntersUnder p) (hR : ¬x.ReturnsUnder p) :
    (x.toned p).resume = x.resume ∧ (x.toned p).state = x.stateLeft p := by
  rcases state_cases h with hc | hb | ht
  · rw [toned_of_cancels hc, if_neg hE]
    exact ⟨(sameTests_judged p x).resume, judged_state p x⟩
  · rw [toned_of_bypass hb, if_neg hR, stateLeft_of_not_cancels (not_cancels_of_bypass hb)]
    exact ⟨(sameTests_measured p x).resume, measured_state p x⟩
  · rw [toned_of_transparent ht, stateLeft_of_not_cancels (not_cancels_of_transparent ht)]
    exact ⟨(sameTests_measured p x).resume, measured_state p x⟩

/-- What a BYPASS or TRANSPARENT record keeps at a block end (R6, R65). -/
structure KeptAside (x y : Record) : Prop where
  passCount : y.passCount = x.passCount
  failCount : y.failCount = x.failCount
  convergedBlocks : y.tallies.convergedBlocks = x.tallies.convergedBlocks
  pathChanges : y.tallies.pathChanges = x.tallies.pathChanges
  divergences : y.tallies.divergences = x.tallies.divergences
  held : y.held = x.held
  unplaced : y.unplaced = x.unplaced

theorem measured_keptAside (p : Profile) (x : Record) : KeptAside x (x.measured p) := by
  obtain ⟨h1, h2, h3⟩ := measured_tallies p x
  exact ⟨measured_passCount p x, measured_failCount p x, h1, h2, h3, measured_held p x, measured_unplaced p x⟩

theorem toned_keptAside (h : x.state = .bypass ∨ x.state = .transparent) : KeptAside x (x.toned p) := by
  obtain ⟨h1, h2, h3, h4, h5, h6, h7⟩ := measured_keptAside p x
  rcases h with hb | ht
  · rw [toned_of_bypass hb]
    split <;> exact ⟨h1, h2, h3, h4, h5, h6, h7⟩
  · rw [toned_of_transparent ht]
    exact ⟨h1, h2, h3, h4, h5, h6, h7⟩

/-! ## After the whole block -/

/-- What the idle test and the end of the block leave of the record as the tone tests left it. -/
theorem blockEnded_counts (h : x.state ≠ .lapsed) (hw : x.block.live = 64) :
    (x.blockEnded p).toneCount = (x.toned p).toneCount ∧ (x.blockEnded p).quietCount = (x.toned p).quietCount ∧
      (x.blockEnded p).idleCount = x.idleAfter p ∧ (x.blockEnded p).passCount = (x.toned p).passCount ∧
      (x.blockEnded p).failCount = (x.toned p).failCount ∧ (x.blockEnded p).tallies = (x.toned p).tallies := by
  rw [blockEnded_of_whole h hw, reviseIdle_toned]
  generalize x.toned p = y
  split <;> exact ⟨rfl, rfl, rfl, rfl, rfl, rfl⟩

theorem blockEnded_of_lapses (h : x.state ≠ .lapsed) (hw : x.block.live = 64) (hL : x.LapsesUnder p) :
    (x.blockEnded p).state = .lapsed ∧ (x.blockEnded p).resume = none ∧ (x.blockEnded p).held = [] ∧
      (x.blockEnded p).unplaced = [] := by
  rw [blockEnded_of_whole h hw, if_pos hL]
  generalize reviseIdle p (x.toned p) = y
  exact ⟨rfl, rfl, rfl, rfl⟩

theorem blockEnded_of_stays (h : x.state ≠ .lapsed) (hw : x.block.live = 64) (hL : ¬x.LapsesUnder p) :
    (x.blockEnded p).state = (x.toned p).state ∧ (x.blockEnded p).resume = (x.toned p).resume ∧
      (x.blockEnded p).held = (x.toned p).held ∧ (x.blockEnded p).unplaced = (x.toned p).unplaced := by
  rw [blockEnded_of_whole h hw, if_neg hL, reviseIdle_toned]
  generalize x.toned p = y
  exact ⟨rfl, rfl, rfl, rfl⟩

theorem granted_congr {y : Record} (hh : y.held = x.held) (hu : y.unplaced = x.unplaced) (k : Nat) :
    (y.granted k).held = (x.granted k).held ∧ (y.granted k).unplaced = (x.granted k).unplaced := by
  simp only [Record.granted, hh, hu, and_self]

/-- The state to which a BYPASS record returns (R154). -/
theorem resumed_eq (resume : Option ResumeState) : (resume.map ResumeState.toState).getD .settling =
    (match resume with | some .converged => .converged | _ => .settling) := by
  rcases resume with _ | _ | _ <;> rfl

theorem and_lapse_flag (a e : EventSet) (gained : Bool) : (a ||| endFlags gained true ||| e) &&& 0x20 = 0x20 := by
  have key (b f : EventSet) : (a ||| (b ||| f) ||| e) &&& f = f := by
    refine BitVec.eq_of_getLsbD_eq fun i _ => ?_
    simp only [BitVec.getLsbD_and, BitVec.getLsbD_or]
    cases f.getLsbD i <;> simp
  exact key (if gained then 0x10 else 0) 0x20

end Sys2Proof.Machine

open Sys2Proof Sys2Proof.Machine

/-- Settles O18. -/
theorem blockEndToneQuietIdle : Obligations.BlockEndToneQuietIdle := by
  intro s r hrun hdue hs hr hl hw p
  obtain ⟨u, j, hbefore, hown, hp, hwork, hafter⟩ := endBlock_around hs hr
  rw [show s.profileOf r = p from rfl] at hwork hafter
  have hexec := exec_blockEnd hrun hdue
  generalize allPositions.foldl State.positionBlockEnd s = v at hexec hafter
  obtain ⟨k, hk⟩ := hafter.granted
  have hp' : u.profileOf (r.granted j) = p := hp
  have hsearch := recordBlockEnd_searching (x := r.granted j) hbefore.table hown hl hw
  rw [hp'] at hsearch
  obtain ⟨hsearchL, hsearchE, hsearchR⟩ := hsearch
  have hid : ((r.granted j).blockEnded p).identity = r.identity := hwork.identity
  have hlater := hafter.searching
  rw [hid] at hk hlater
  obtain ⟨htone, hquiet, hidle, hpass, hfail, htallies⟩ := blockEnded_counts (x := r.granted j) (p := p) hl hw
  refine ⟨_, hexec, ((r.granted j).blockEnded p).granted k, hk, htone.trans (toned_toneCount hl),
    hquiet.trans (toned_quietCount hl), hidle, fun hst => ?_, fun hL => ?_, fun hL hE => ?_, fun hL hR => ?_,
    fun hL hE hR => ?_⟩
  · have hkept := toned_keptAside (p := p) (x := r.granted j) hst
    refine ⟨hpass.trans hkept.passCount, hfail.trans hkept.failCount, ?_, ?_, ?_, fun hL => ⟨j + k, ?_⟩⟩
    · exact (congrArg Tallies.convergedBlocks htallies).trans hkept.convergedBlocks
    · exact (congrArg Tallies.pathChanges htallies).trans hkept.pathChanges
    · exact (congrArg Tallies.divergences htallies).trans hkept.divergences
    · obtain ⟨-, -, hheld, hunplaced⟩ := blockEnded_of_stays (x := r.granted j) hl hw hL
      rw [← granted_granted]
      exact granted_congr (x := r.granted j) (hheld.trans hkept.held) (hunplaced.trans hkept.unplaced) k
  · obtain ⟨hst, hres, hheld, hunplaced⟩ := blockEnded_of_lapses (x := r.granted j) hl hw hL
    rw [granted_of_unplaced_nil hunplaced]
    refine ⟨hst, hres, hheld, hunplaced, fun hmem => (hsearchL hL).2 (hafter.waiting hmem), ?_, ?_⟩
    · rw [searchStatus_eq_noSearch_iff]
      exact fun hmem => (hsearchL hL).1 (hlater.1 hmem)
    · obtain ⟨e, he⟩ := hafter.summary
      have hlapsed : lapsedSince (r.granted j) ((r.granted j).blockEnded p) = true := by
        rw [lapsedSince, hst]
        simpa using hl
      change v.summary &&& 0x20 = 0x20
      rw [he, hwork.summary, hlapsed]
      exact and_lapse_flag _ _ _
  · obtain ⟨hst, hres, -, -⟩ := blockEnded_of_stays (x := r.granted j) hl hw hL
    obtain ⟨hst', hres'⟩ := toned_of_enters (x := r.granted j) hE
    refine ⟨hst.trans hst', hres.trans hres', ?_⟩
    rw [searchStatus_eq_noSearch_iff]
    exact fun hmem => hsearchE hL hE (hlater.1 hmem)
  · obtain ⟨hst, hres, -, -⟩ := blockEnded_of_stays (x := r.granted j) hl hw hL
    obtain ⟨hst', hres', hback⟩ := toned_of_returns (x := r.granted j) hR
    refine ⟨(hst.trans hst').trans (hback.trans (resumed_eq r.resume)), hres.trans hres', fun hset hon hlim => ?_⟩
    rw [Ne, searchStatus_eq_noSearch_iff, not_not]
    refine hlater.2 (hsearchR hL hR ?_)
    have hback' : returnState ((r.granted j).quietCounted p) = .settling := (hst.trans hst').symm.trans hset
    rw [returnRequests, hback', hon, decide_eq_true hlim]
    rfl
  · obtain ⟨hst, hres, -, -⟩ := blockEnded_of_stays (x := r.granted j) hl hw hL
    obtain ⟨hres', hst'⟩ := toned_of_neither (x := r.granted j) hl hE hR
    refine ⟨hres.trans hres', fun _ => hst.trans hst', fun hn => (hst.trans hst').trans (stateLeft_of_not_cancels ?_)⟩
    rcases hn with hb | ht
    · exact not_cancels_of_bypass hb
    · exact not_cancels_of_transparent ht
end

section
/-! SUPPORT. The alarms and the summary of a block end (O19). -/

namespace Sys2Proof.Machine

variable {s t : State} {p : Profile} {x y r : Record}

/-! ## The alarms -/

theorem toned_alarms (p : Profile) (x : Record) : (x.toned p).alarms = (x.judged p).alarms := by
  unfold Record.toned Record.toneWorked
  dsimp only
  rw [← reviseToneOrQuiet_alarms p (x.judged p)]
  generalize reviseToneOrQuiet p (x.judged p) = q
  split
  · rfl
  · split <;> rfl

theorem blockEnded_alarms (h : x.state ≠ .lapsed) : (x.blockEnded p).alarms = x.alarms |||
    (if x.block.clip then 0x4 else 0x0) |||
    (if x.Qualifying ∧ x.block.energyOut < x.block.energyIn * 4 then 0x2 else 0x0) |||
    (if x.Qualifying ∧ x.DivergentUnder p then 0x1 else 0x0) := by
  by_cases hw : x.block.live = 64
  · rw [← judged_alarms p x, blockEnded_of_whole h hw]
    rw [← toned_alarms p x, reviseIdle_toned]
    generalize x.toned p = y
    split <;> rfl
  · rw [blockEnded_of_partial h hw, if_neg fun hq : x.Qualifying ∧ _ => hw hq.1.1,
      if_neg fun hq : x.Qualifying ∧ _ => hw hq.1.1]
    have hclip : x.clipDetected.alarms = x.alarms ||| (if x.block.clip then 0x4 else 0x0) := by
      unfold Record.clipDetected
      split
      · rfl
      · exact (BitVec.or_zero).symm
    exact hclip.trans (BitVec.or_zero.trans BitVec.or_zero).symm

/-! ## The summary -/

/-- A kind of event that block-end work raises exactly for the records on which a condition stands between their states
before and after. -/
structure EndSign (bit : Nat) (D : Record → Record → Prop) : Prop where
  refl : ∀ x, ¬D x x
  before : ∀ x j y, D (x.granted j) y ↔ D x y
  after : ∀ x y k, D x (y.granted k) ↔ D x y
  raised : ∀ (x y : Record), (endFlags (y.alarms != x.alarms) (lapsedSince x y)).getLsbD bit = true ↔ D x y

theorem foldl_summary {bit : Nat} {D : Record → Record → Prop} (hD : EndSign bit D) (hs : s.TableSound)
    {ps : List Position} (hps : ps.Nodup) :
    (ps.foldl State.positionBlockEnd s).summary.getLsbD bit = true ↔
      s.summary.getLsbD bit = true ∨ ∃ r ∈ s.records, r.position ∈ ps ∧
        ∃ q, (ps.foldl State.positionBlockEnd s).recordOf r.identity = some q ∧ D r q := by
  induction ps generalizing s with
  | nil => simp
  | cons p ps ih =>
    obtain ⟨hp, hps⟩ := List.nodup_cons.1 hps
    rw [List.foldl_cons]
    cases hat : s.recordAt p with
    | none =>
      rw [positionBlockEnd_of_none hat, ih hs hps]
      have hne := recordAt_eq_none_iff.1 hat
      refine or_congr_right (exists_congr fun r => and_congr_right fun hr => ?_)
      rw [List.mem_cons, or_iff_right (hne r hr)]
    | some x =>
      obtain ⟨hx, hxp⟩ := recordAt_some hat
      have hwork := recordBlockEnd_work hs ((recordOf_eq_some_iff hs).2 ⟨hx, rfl⟩)
      rw [positionBlockEnd_of_some hat, ih hwork.table hps, hwork.summary, BitVec.getLsbD_or, Bool.or_eq_true, hD.raised,
        or_assoc]
      refine or_congr_right ⟨?_, ?_⟩
      · rintro (hDxy | ⟨r1, hr1, hpos, q, hq, hDq⟩)
        · have haside := foldl_positionBlockEnd_aside hwork.table hwork.named (ps := ps)
            (by rw [hwork.position, hxp]; exact hp)
          obtain ⟨k, hk⟩ := haside.granted
          rw [hwork.identity] at hk
          exact ⟨x, hx, hxp ▸ List.mem_cons_self, _, hk, (hD.after _ _ _).2 hDxy⟩
        · have hid : r1.identity ∈ s.records.map (·.identity) := hwork.identities ▸ List.mem_map_of_mem hr1
          obtain ⟨r, hr, hri⟩ := List.mem_map.1 hid
          have hne : r.identity ≠ x.identity := by
            intro he
            have hown : r1 = _ := eq_of_identity_eq hwork.table hr1 (recordOf_some hwork.own).1
              ((hri.symm.trans he).trans hwork.identity.symm)
            rw [hown, hwork.position, hxp] at hpos
            exact hp hpos
          obtain ⟨j, hj⟩ := hwork.others _ hne r ((recordOf_eq_some_iff hs).2 ⟨hr, rfl⟩)
          have heq : r1 = r.granted j := eq_of_identity_eq hwork.table hr1 (recordOf_some hj).1 hri.symm
          subst heq
          exact ⟨r, hr, List.mem_cons_of_mem _ hpos, q, hq, (hD.before _ _ _).1 hDq⟩
      · rintro ⟨r, hr, hpos, q, hq, hDq⟩
        by_cases hrp : r.position = p
        · have hrx : r = x := eq_of_position_eq hs hr hx (hrp.trans hxp.symm)
          subst hrx
          have haside := foldl_positionBlockEnd_aside hwork.table hwork.named (ps := ps)
            (by rw [hwork.position, hxp]; exact hp)
          obtain ⟨k, hk⟩ := haside.granted
          rw [hwork.identity] at hk
          rw [Option.some.inj (hq.symm.trans hk)] at hDq
          exact .inl ((hD.after _ _ _).1 hDq)
        · have hne : r.identity ≠ x.identity := fun he =>
            hrp ((congrArg Record.position (eq_of_identity_eq hs hr hx he)).trans hxp)
          obtain ⟨j, hj⟩ := hwork.others _ hne r ((recordOf_eq_some_iff hs).2 ⟨hr, rfl⟩)
          exact .inr ⟨r.granted j, (recordOf_some hj).1, (List.mem_cons.1 hpos).resolve_left hrp, q, hq,
            (hD.before _ _ _).2 hDq⟩

/-- A record's alarm set gained a kind (R8). -/
theorem endSign_gained : EndSign 4 fun x y => y.alarms ≠ x.alarms where
  refl _ h := h rfl
  before _ _ _ := .rfl
  after _ _ _ := .rfl
  raised x y := by
    have key (a b : Bool) : (endFlags a b).getLsbD 4 = a := by revert a b; decide
    rw [key, bne_iff_ne]

/-- A record lapsed (R158). -/
theorem endSign_lapsed : EndSign 5 fun x y => x.state ≠ .lapsed ∧ y.state = .lapsed where
  refl _ h := h.1 h.2
  before _ _ _ := .rfl
  after _ _ _ := .rfl
  raised x y := by
    have key (a b : Bool) : (endFlags a b).getLsbD 5 = b := by revert a b; decide
    rw [key, lapsedSince, Bool.and_eq_true, bne_iff_ne, beq_iff_eq]

/-- A kind of event that block-end work does not raise. -/
theorem endSign_other {bit : Nat} (h8 : bit < 8) (h4 : bit ≠ 4) (h5 : bit ≠ 5) : EndSign bit fun _ _ => False where
  refl _ h := h
  before _ _ _ := .rfl
  after _ _ _ := .rfl
  raised x y := by
    have key (k : Fin 8) (h4 : k.val ≠ 4) (h5 : k.val ≠ 5) (a b : Bool) : (endFlags a b).getLsbD k.val = false := by
      revert a b k
      decide
    simpa using key ⟨bit, h8⟩ h4 h5 _ _

end Sys2Proof.Machine

open Sys2Proof Sys2Proof.Machine

/-- Settles O19. -/
theorem blockEndAlarms : Obligations.BlockEndAlarms := by
  intro s hrun hdue hs
  have hnd : allPositions.Nodup := List.nodup_finRange 128
  have hexec := exec_blockEnd hrun hdue
  have hgained := foldl_summary endSign_gained hs hnd
  have hlapsed := foldl_summary endSign_lapsed hs hnd
  have hothers (k : Nat) (h8 : k < 8) (h4 : k ≠ 4) (h5 : k ≠ 5) := foldl_summary (endSign_other h8 h4 h5) hs hnd
  have haround (r : Record) (hr : r ∈ s.records) := endBlock_around hs hr
  generalize allPositions.foldl State.positionBlockEnd s = v at hexec hgained hlapsed hothers haround
  have hnamed (r : Record) (hr : r ∈ s.records) : ∃ j k, v.recordOf r.identity =
      some (((r.granted j).blockEnded (s.profileOf r)).granted k) := by
    obtain ⟨u, j, -, -, -, hwork, hafter⟩ := haround r hr
    obtain ⟨k, hk⟩ := hafter.granted
    rw [hwork.identity] at hk
    exact ⟨j, k, hk⟩
  refine ⟨_, hexec, fun r hr hl => ?_, ?_, ?_, fun k h8 h4 h5 => ?_⟩
  · obtain ⟨j, k, hk⟩ := hnamed r hr
    exact ⟨_, hk, blockEnded_alarms (x := r.granted j) hl⟩
  · refine hgained.trans (or_congr_right (exists_congr fun r => and_congr_right fun hr => ?_))
    obtain ⟨j, k, hk⟩ := hnamed r hr
    change _ ↔ (v.recordOf r.identity).map (·.alarms) ≠ some r.alarms
    rw [hk]
    refine ⟨?_, fun hne => ⟨List.mem_finRange _, _, rfl, fun he => hne (congrArg some he)⟩⟩
    rintro ⟨-, q, hq, hne⟩ he
    exact hne ((congrArg Record.alarms (Option.some.inj hq)).symm.trans (Option.some.inj he))
  · refine hlapsed.trans (or_congr_right (exists_congr fun r => and_congr_right fun hr => ?_))
    obtain ⟨j, k, hk⟩ := hnamed r hr
    change _ ↔ r.state ≠ .lapsed ∧ (v.recordOf r.identity).map (·.state) = some .lapsed
    rw [hk]
    refine ⟨?_, fun ⟨hl, he⟩ => ⟨List.mem_finRange _, _, rfl, hl, Option.some.inj he⟩⟩
    rintro ⟨-, q, hq, hl, he⟩
    exact ⟨hl, congrArg some ((congrArg Record.state (Option.some.inj hq)).trans he)⟩
  · refine Bool.eq_iff_iff.2 ((hothers k h8 h4 h5).trans (or_iff_left ?_))
    rintro ⟨-, -, -, -, -, hfalse⟩
    exact hfalse
end

section
/-! SUPPORT. Command bodies (O54). -/

namespace Sys2Proof.Machine

/-! ## Words as two bytes -/

theorem wordBytes_wordOf (hi lo : Byte) : wordBytes (wordOf hi lo) = [hi, lo] := by
  have h1 : (wordOf hi lo).extractLsb' 8 8 = hi := by
    ext i hi
    simp only [wordOf, BitVec.getElem_extractLsb', BitVec.getLsbD_append]
    simp [hi]
  have h2 : (wordOf hi lo).extractLsb' 0 8 = lo := by
    ext i hi
    simp only [wordOf, BitVec.getElem_extractLsb', BitVec.getLsbD_append]
    simp [hi]
  rw [wordBytes, h1, h2]

theorem exists_wordOf (w : BitVec 16) : ∃ hi lo : Byte, w = wordOf hi lo := by
  refine ⟨w.extractLsb' 8 8, w.extractLsb' 0 8, ?_⟩
  refine BitVec.eq_of_getLsbD_eq fun i hi => ?_
  simp only [wordOf, BitVec.getLsbD_append, BitVec.getLsbD_extractLsb']
  split
  · rename_i h
    simp [h]
  · rename_i h
    rw [show 8 + (i - 8) = i by omega]
    simp
    omega

/-! ## The command list -/

/-- The codes of the record commands (R180). -/
def recordCodes : List Byte := [0x01, 0x02, 0x03, 0x04, 0x05, 0x06, 0x10, 0x11, 0x12, 0x13, 0x14]

/-- The codes of the other commands (R180). -/
def serviceCodes : List Byte := [0x20, 0x21, 0x22, 0x23, 0x24, 0x28, 0x29, 0x30, 0x31, 0x32, 0x33, 0x34, 0x3F]

theorem mem_codes : ∀ code : Byte, (parameterCount code.toNat).isSome = true → code ∈ recordCodes ++ serviceCodes := by
  decide

/-- A decoded command is a well-formed one, and encodes to what was decoded (R10, R180). -/
def Encodes (code : Byte) (parameters : List Byte) (i : Instr) : Prop :=
  encodeCommand i = some (code, parameters) ∧ WellFormed i = true

/-- Record commands decoded: the parameters are as many as the command has (R180). -/
theorem encodes_of_recordCode {code : Byte} (hcode : code ∈ recordCodes) {parameters : List Byte} {i : Instr}
    (h : commandOf code.toNat parameters = some i) : Encodes code parameters i := by
  simp only [recordCodes, List.mem_cons, List.not_mem_nil, or_false] at hcode
  rcases hcode with rfl | rfl | rfl | rfl | rfl | rfl | rfl | rfl | rfl | rfl | rfl
  · match parameters, i, h with
    | [i1, i0, p, n, m], _, rfl =>
      exact ⟨by simp only [encodeCommand, wordBytes_wordOf, List.cons_append, List.nil_append], rfl⟩
  · match parameters, i, h with
    | [i1, i0], _, rfl => exact ⟨by simp only [encodeCommand, wordBytes_wordOf], rfl⟩
  · match parameters, i, h with
    | [i1, i0, m, f, n, a1, a0, b1, b0, g], _, rfl =>
      exact ⟨by simp only [encodeCommand, wordBytes_wordOf, List.cons_append, List.nil_append], rfl⟩
  · match parameters, i, h with
    | [i1, i0, p], _, rfl =>
      exact ⟨by simp only [encodeCommand, wordBytes_wordOf, List.cons_append, List.nil_append], rfl⟩
  · match parameters, i, h with
    | [a, b], _, rfl => exact ⟨rfl, rfl⟩
  · match parameters, i, h with
    | [i1, i0, l], _, rfl =>
      exact ⟨by simp only [encodeCommand, wordBytes_wordOf, List.cons_append, List.nil_append], rfl⟩
  · match parameters, i, h with
    | [i1, i0], _, rfl => exact ⟨by simp only [encodeCommand, wordBytes_wordOf], rfl⟩
  · match parameters, i, h with
    | [i1, i0, x], _, rfl =>
      exact ⟨by simp only [encodeCommand, wordBytes_wordOf, List.cons_append, List.nil_append], rfl⟩
  · match parameters, i, h with
    | [p], _, rfl => exact ⟨rfl, rfl⟩
  · match parameters, i, h with
    | [st, al, i1, i0], _, rfl =>
      exact ⟨by simp only [encodeCommand, wordBytes_wordOf, List.cons_append, List.nil_append], rfl⟩
  · match parameters, i, h with
    | [i1, i0, a], _, rfl =>
      exact ⟨by simp only [encodeCommand, wordBytes_wordOf, List.cons_append, List.nil_append], rfl⟩

/-- Service commands decoded (R180). -/
theorem encodes_of_serviceCode {code : Byte} (hcode : code ∈ serviceCodes) {parameters : List Byte} {i : Instr}
    (h : commandOf code.toNat parameters = some i) : Encodes code parameters i := by
  simp only [serviceCodes, List.mem_cons, List.not_mem_nil, or_false] at hcode
  rcases hcode with rfl | rfl | rfl | rfl | rfl | rfl | rfl | rfl | rfl | rfl | rfl | rfl | rfl
  · match parameters, i, h with
    | [n], _, rfl => exact ⟨rfl, rfl⟩
  · match parameters, h with
    | n :: layout, h =>
      have hif : (if layout.length = 36 then some (Instr.profileWrite n layout) else none) = some i := h
      by_cases hlen : layout.length = 36
      · rw [if_pos hlen] at hif
        cases hif
        exact ⟨rfl, beq_iff_eq.2 hlen⟩
      · rw [if_neg hlen] at hif
        cases hif
  · match parameters, i, h with
    | [n], _, rfl => exact ⟨rfl, rfl⟩
  · match parameters, i, h with
    | [n, e, b1, b0, m1, m0, p, m], _, rfl =>
      exact ⟨by simp only [encodeCommand, wordBytes_wordOf, List.cons_append, List.nil_append], rfl⟩
  · match parameters, i, h with
    | [n, e], _, rfl => exact ⟨rfl, rfl⟩
  · match parameters, i, h with
    | [], _, rfl => exact ⟨rfl, rfl⟩
  · match parameters, i, h with
    | [], _, rfl => exact ⟨rfl, rfl⟩
  · match parameters, i, h with
    | [], _, rfl => exact ⟨rfl, rfl⟩
  · match parameters, i, h with
    | [k], _, rfl => exact ⟨rfl, rfl⟩
  · match parameters, i, h with
    | [k], _, rfl => exact ⟨rfl, rfl⟩
  · match parameters, i, h with
    | [tt, i1, i0, c], _, rfl =>
      exact ⟨by simp only [encodeCommand, wordBytes_wordOf, List.cons_append, List.nil_append], rfl⟩
  · match parameters, i, h with
    | [], _, rfl => exact ⟨rfl, rfl⟩
  · match parameters, i, h with
    | [], _, rfl => exact ⟨rfl, rfl⟩

/-- Decoding undoes encoding, and the parameters have the count of R180's list. -/
def Decodes (i : Instr) (code : Byte) (parameters : List Byte) : Prop :=
  decodeCommand code parameters = .command i ∧ parameterCount code.toNat = some parameters.length

theorem decodeCommand_eq_command_iff {code : Byte} {parameters : List Byte} {i : Instr} :
    decodeCommand code parameters = .command i ↔
      (parameterCount code.toNat).isSome = true ∧ commandOf code.toNat parameters = some i := by
  unfold decodeCommand
  cases parameterCount code.toNat <;> cases commandOf code.toNat parameters <;> simp

theorem decodes_of_encodeCommand {i : Instr} {code : Byte} {parameters : List Byte} (hwf : WellFormed i = true)
    (h : encodeCommand i = some (code, parameters)) : Decodes i code parameters := by
  cases i
  case reset | frameSync | blockEnd | promotion | pathChange | entryToBypass | returnFromBypass | idleLapse
      | searchComplete | searchTimeout | storeComplete | commandFrameReceived | interByteGap | overrun | replySent
      | characterFault | powerLoss =>
    cases h
  case moveLine | find | profileRead | ruleRead | ruleEnable | store | load | events | ackEvents | setMask | ident
      | restart =>
    cases h
    exact ⟨rfl, rfl⟩
  case attach id _ _ _ | detach id | rebind id _ | research id _ | look id | lookWindow id _ | ackAlarms id _ =>
    obtain ⟨i1, i0, rfl⟩ := exists_wordOf id
    cases h
    rw [wordBytes_wordOf]
    exact ⟨rfl, rfl⟩
  case list _ _ id | tally _ id _ =>
    obtain ⟨i1, i0, rfl⟩ := exists_wordOf id
    cases h
    rw [wordBytes_wordOf]
    exact ⟨rfl, rfl⟩
  case modify id _ _ _ padIn padOut _ =>
    obtain ⟨i1, i0, rfl⟩ := exists_wordOf id
    obtain ⟨a1, a0, rfl⟩ := exists_wordOf padIn
    obtain ⟨b1, b0, rfl⟩ := exists_wordOf padOut
    cases h
    simp only [wordBytes_wordOf]
    exact ⟨rfl, rfl⟩
  case ruleWrite _ _ base mask _ _ =>
    obtain ⟨b1, b0, rfl⟩ := exists_wordOf base
    obtain ⟨m1, m0, rfl⟩ := exists_wordOf mask
    cases h
    simp only [wordBytes_wordOf]
    exact ⟨rfl, rfl⟩
  case profileWrite n layout =>
    have hlen : layout.length = 36 := beq_iff_eq.1 hwf
    cases h
    refine ⟨decodeCommand_eq_command_iff.2 ⟨rfl, if_pos hlen⟩, ?_⟩
    rw [List.length_cons, hlen]
    rfl

end Sys2Proof.Machine

open Sys2Proof Sys2Proof.Machine

/-- Settles O54. -/
theorem commandEncodingRoundTrip : Obligations.CommandEncodingRoundTrip := by
  refine ⟨fun i code parameters hwf h => decodes_of_encodeCommand hwf h, fun code parameters i h => ?_,
    fun _ _ _ _ _ _ _ _ _ _ => ?_⟩
  · obtain ⟨hcode, hcommand⟩ := decodeCommand_eq_command_iff.1 h
    rcases List.mem_append.1 (mem_codes code hcode) with hrecord | hservice
    · exact encodes_of_recordCode hrecord hcommand
    · exact encodes_of_serviceCode hservice hcommand
  · exact ⟨rfl, rfl, rfl, rfl, rfl, rfl, rfl, rfl, rfl, rfl, rfl, rfl, rfl, rfl, rfl, rfl, rfl, rfl, rfl, rfl, rfl, rfl,
      rfl, rfl⟩
end

section
/-! SUPPORT. The port hears a command frame (O49). -/

namespace Sys2Proof.Machine

variable {s : State}

/-! ## A frame assembled -/

theorem setHearing_self {h : Hearing} (hs : s.port.hearing = h) : s.setHearing h = s := by
  subst hs
  rfl

/-- Judgement ends the hearing of a frame, however far it stood (R177). -/
theorem judgeFrame_setHearing (s : State) (h : Hearing) (bytes : List Byte) :
    (s.setHearing h).judgeFrame bytes = s.judgeFrame bytes := rfl

/-- A frame whose length byte is in range and says how long it is (R176). -/
structure WholeFrame (bytes : List Byte) : Prop where
  length : bytes.length = frameLength bytes + 4
  one_le : 1 ≤ frameLength bytes
  le_max : frameLength bytes ≤ 200

theorem frameLength_append {bytes more : List Byte} (h : 3 ≤ bytes.length) :
    frameLength (bytes ++ more) = frameLength bytes := by
  unfold frameLength
  rw [List.getD_append _ _ _ _ (by omega)]

/-- A frame is complete with its last byte, and not before (R176, R177). -/
theorem frameProgress_of_whole {bytes : List Byte} (h : WholeFrame bytes) : frameProgress bytes = .complete := by
  obtain ⟨hlen, h1, h200⟩ := h
  unfold frameProgress
  rw [if_neg (by omega), if_neg (by omega), if_neg (by omega)]

theorem frameProgress_of_prefix {bytes more : List Byte} (h : WholeFrame (bytes ++ more)) (hmore : more ≠ []) :
    frameProgress bytes = .more := by
  obtain ⟨hlen, h1, h200⟩ := h
  have hpos := List.length_pos_iff.2 hmore
  rw [List.length_append] at hlen
  unfold frameProgress
  by_cases h3 : bytes.length < 3
  · rw [if_pos h3]
  · rw [frameLength_append (by omega)] at hlen h1 h200
    rw [if_neg h3, if_neg (by omega), if_pos (by omega)]

theorem hear_of_more {bytes : List Byte} {b : Byte} (hs : s.port.hearing = .assembling bytes)
    (h : frameProgress (bytes ++ [b]) = .more) : s.hear b = s.setHearing (.assembling (bytes ++ [b])) := by
  simp only [State.hear, hs, h]

theorem hear_of_complete {bytes : List Byte} {b : Byte} (hs : s.port.hearing = .assembling bytes)
    (h : frameProgress (bytes ++ [b]) = .complete) : s.hear b = s.judgeFrame (bytes ++ [b]) := by
  simp only [State.hear, hs, h]

/-- The rest of a frame heard (R177). -/
theorem hearAll_of_assembling {more : List Byte} (hmore : more ≠ []) (bytes : List Byte)
    (h : WholeFrame (bytes ++ more)) :
    (s.setHearing (.assembling bytes)).hearAll more = s.judgeFrame (bytes ++ more) := by
  induction more generalizing bytes with
  | nil => exact absurd rfl hmore
  | cons b rest ih =>
    have hsplit : bytes ++ b :: rest = (bytes ++ [b]) ++ rest := by simp
    change ((s.setHearing (.assembling bytes)).hear b).hearAll rest = _
    cases rest with
    | nil =>
      rw [hear_of_complete rfl (frameProgress_of_whole h)]
      exact judgeFrame_setHearing s _ _
    | cons c rest =>
      rw [hsplit] at h
      rw [hear_of_more rfl (frameProgress_of_prefix h (List.cons_ne_nil _ _)), hsplit]
      exact ih (List.cons_ne_nil _ _) _ h

/-- A whole frame heard by a port that hunts and is not busy (R177). -/
theorem hearAll_frame (hhear : s.port.hearing = .hunting) (hreply : s.port.reply = none) {rest : List Byte}
    (h : WholeFrame (syncByte :: rest)) : s.hearAll (syncByte :: rest) = s.judgeFrame (syncByte :: rest) := by
  have hrest : rest ≠ [] := by
    rintro rfl
    have := h.length
    simp at this
  have hbusy : s.isBusy = false := by rw [State.isBusy, hreply]; rfl
  have hfirst : s.hear syncByte = s.setHearing (.assembling [syncByte]) := by
    unfold State.hear
    rw [hhear]
    dsimp only
    rw [if_pos rfl, hbusy, if_neg Bool.false_ne_true]
  change (s.hear syncByte).hearAll rest = _
  rw [hfirst]
  exact hearAll_of_assembling hrest [syncByte] h

/-! ## A command frame judged -/

theorem byteSum_toNat (bytes : List Byte) : (byteSum bytes).toNat = (bytes.map (·.toNat)).sum % 256 := by
  have key (bytes : List Byte) (b : Byte) :
      (bytes.foldl (· + ·) b).toNat = (b.toNat + (bytes.map (·.toNat)).sum) % 256 := by
    induction bytes generalizing b with
    | nil => simpa using (Nat.mod_eq_of_lt b.isLt).symm
    | cons c cs ih =>
      rw [List.foldl_cons, ih, BitVec.toNat_add, List.map_cons, List.sum_cons]
      omega
  rw [byteSum, key]
  simp

theorem exec_eq_takeCommand {i : Instr} {code : Byte} {parameters : List Byte}
    (h : encodeCommand i = some (code, parameters)) (s : State) : exec i s = takeCommand code (carryOut i) s := by
  cases i <;> cases h <;> rfl

theorem parameterCount_le : ∀ code : Byte, ∀ n ∈ parameterCount code.toNat, n ≤ 37 := by
  decide

/-- The bytes of a command frame after its sync byte (R176). -/
def commandBody (address : BitVec 4) (code : Byte) (parameters : List Byte) (check : Byte) : List Byte :=
  [address.setWidth 8, BitVec.ofNat 8 (parameters.length + 1), code] ++ parameters ++ [check]

variable {address : BitVec 4} {code check : Byte} {parameters : List Byte}

theorem frameLength_command (h : parameters.length ≤ 37) :
    frameLength (syncByte :: commandBody address code parameters check) = parameters.length + 1 := by
  change (BitVec.ofNat 8 (parameters.length + 1)).toNat = _
  rw [BitVec.toNat_ofNat]
  omega

theorem wholeFrame_command (h : parameters.length ≤ 37) :
    WholeFrame (syncByte :: commandBody address code parameters check) := by
  have hlen := frameLength_command (address := address) (code := code) (check := check) h
  refine ⟨?_, by omega, by omega⟩
  rw [hlen]
  simp [commandBody]

theorem frameParameters_command (h : parameters.length ≤ 37) :
    frameParameters (syncByte :: commandBody address code parameters check) = parameters := by
  unfold frameParameters
  rw [frameLength_command h]
  simp [commandBody]

theorem frameKind_command : frameKind (syncByte :: commandBody address code parameters check) = 0 := by
  change (address.setWidth 8).extractLsb' 4 4 = 0
  revert address
  decide

theorem frameAddress_command : frameAddress (syncByte :: commandBody address code parameters check) = address := by
  change (address.setWidth 8).extractLsb' 0 4 = address
  revert address
  decide

/-- A command frame to this unit is taken (R177, R180). -/
theorem judgeFrame_command {i : Instr} (hhear : s.port.hearing = .hunting) (h15 : s.port.address ≠ 15)
    (hd : Decodes i code parameters)
    (hsum : ((commandBody s.port.address code parameters check).map (·.toNat)).sum % 256 = 0) :
    s.judgeFrame (syncByte :: commandBody s.port.address code parameters check) = respond code (carryOut i s) := by
  obtain ⟨hdecode, hcount⟩ := hd
  have hle := parameterCount_le code _ hcount
  have hcheck : byteSum ((syncByte :: commandBody s.port.address code parameters check).drop 1) = 0 :=
    BitVec.eq_of_toNat_eq ((byteSum_toNat _).trans hsum)
  unfold State.judgeFrame
  rw [if_neg (not_not.2 hcheck), if_neg (not_not.2 frameKind_command), frameAddress_command, if_neg h15, if_pos rfl,
    frameParameters_command hle, setHearing_self hhear]
  change s.takeAddressed code parameters = _
  simp only [State.takeAddressed, hdecode]

end Sys2Proof.Machine

open Sys2Proof Sys2Proof.Machine

/-- Settles O49. -/
theorem commandFrameEqualsRow : Obligations.CommandFrameEqualsRow := by
  intro s i code check parameters hrun hhear hreply h15 hwf h body hsum
  have hd := decodes_of_encodeCommand hwf h
  have hle := parameterCount_le code _ hd.2
  rw [exec_eq_takeCommand h s, takeCommand_eq hrun rfl]
  refine (whileRunning_of_running hrun fun s => s.hearAll (0xA5 :: body)).trans (congrArg _ ?_)
  exact (hearAll_frame hhear hreply (wholeFrame_command hle)).trans (judgeFrame_command hhear h15 hd hsum)
end

section
/-! SUPPORT. What a reset leaves, spelled out (O4). -/

namespace Sys2Proof.Machine

/-- The store and the working settings after a reset, spelled out: the cut leaves the check invalid (R173, R175). -/
theorem resetPart_eq (s : State) (address : BitVec 4) (rate : LineRate) : s.resetPart address rate =
    { State.reset with
      settings := if s.store.valid && s.store.inFlight.isNone then s.store.contents else factorySettings
      store :=
        { contents := match s.store.inFlight with
            | none => s.store.contents
            | some snapshot => Config.tornContents s.freeIndex s.store.contents snapshot
          valid := s.store.valid && s.store.inFlight.isNone
          wear := s.store.wear
          inFlight := none }
      summary := if s.store.valid && s.store.inFlight.isNone then 0x01 else 0x03
      freeIndex := s.freeIndex + (if s.store.inFlight.isNone then 0 else 1)
      pending := s.pending
      port := { State.reset.port with address := address, rate := rate } } := by
  unfold State.resetPart State.loadWorking State.cutStore
  rcases hst : s.store with ⟨contents, valid, wear, inFlight⟩
  cases inFlight with
  | some snapshot => simp [State.tearStore, State.raise, EventKind.flag, hst]
  | none => cases valid <;> simp [State.raise, EventKind.flag, hst]

end Sys2Proof.Machine

open Sys2Proof Sys2Proof.Machine

/-- Settles O4: the reset part is the stated record of fields, whether the pin is held or released; the factory values
are read off the tables. -/
theorem resetLoadsAndClears : Obligations.ResetLoadsAndClears := by
  refine ⟨fun s pin straps => ?_, fun n => ?_, fun n => ?_⟩
  · change Host.Outcome.next (s.takeReset pin straps) = _
    cases pin <;> exact congrArg _ (by rw [State.takeReset, resetPart_eq]; rfl)
  · simp [factorySettings, factoryProfile, Vector.get_eq_getElem]
  · simp [factorySettings, factoryRule, Vector.get_eq_getElem]
end

section
/-! SUPPORT. What block-end work and the ends of searches leave of the part: the keys of the records, and everything but
the table, the search unit, the pool, the summary and the part tallies. -/

namespace Sys2Proof.Machine

variable {s t u : State} {id : Identity} {r : Record}

/-! ## Steps that keep the keys of the table -/

/-- The three fields by which the part names and configures a record: its identity, its position and its profile. -/
def Record.keys (r : Record) : Identity × Position × ProfileNumber := (r.identity, r.position, r.profile)

/-- A step that keeps every record's keys, and everything but the table, the search unit, the pool, the summary and the
part tallies. -/
structure KeysStep (s t : State) : Prop where
  apart : s.SameApart t
  keys : t.records.map Record.keys = s.records.map Record.keys

/-- Such a step that counts of the part tallies the grants alone. -/
structure GrantsStep (s t : State) : Prop extends KeysStep s t where
  part : t.part = { s.part with grants := t.part.grants }

theorem KeysStep.refl (s : State) : KeysStep s s := ⟨rfl, rfl⟩

theorem KeysStep.trans (h : KeysStep s t) (k : KeysStep t u) : KeysStep s u :=
  ⟨sameApart_trans h.apart k.apart, k.keys.trans h.keys⟩

theorem GrantsStep.refl (s : State) : GrantsStep s s := ⟨.refl s, rfl⟩

theorem GrantsStep.trans (h : GrantsStep s t) (k : GrantsStep t u) : GrantsStep s u :=
  ⟨h.toKeysStep.trans k.toKeysStep, by rw [k.part, h.part]⟩

/-- A step that leaves the table and the part tallies. -/
theorem GrantsStep.of_records_eq (ha : s.SameApart t) (hr : t.records = s.records) (hp : t.part = s.part) :
    GrantsStep s t := ⟨⟨ha, by rw [hr]⟩, by rw [hp]⟩

theorem GrantsStep.of_poolStep (h : PoolStep s t) : GrantsStep s t :=
  ⟨⟨h.apart, forall2_map_eq Record.keys (fun _ _ hq => by rw [hq]; rfl) h.records⟩, h.part⟩

theorem update_keys (s : State) (id : Identity) {f : Record → Record} (hf : KeysKept f) :
    (s.update id f).records.map Record.keys = s.records.map Record.keys :=
  forall2_map_eq (R := fun r q => q.keys = r.keys) Record.keys (fun _ _ h => h) <|
    forall2_update s id (fun _ _ => rfl) fun r _ _ => by
      rw [Record.keys, hf.identity, hf.position, hf.profile]; rfl

theorem GrantsStep.update (s : State) (id : Identity) {f : Record → Record} (hf : KeysKept f) :
    GrantsStep s (s.update id f) := ⟨⟨rfl, update_keys s id hf⟩, rfl⟩

theorem GrantsStep.arbitrate (s : State) : GrantsStep s s.arbitrate :=
  .of_records_eq (arbitrate_sameApart s) (arbitrate_records s) (arbitrate_part s)

theorem GrantsStep.request (s : State) (l : Lane) (id : Identity) : GrantsStep s (s.request l id) :=
  .of_records_eq (request_sameApart s l id) (request_records s l id) (request_part s l id)

theorem GrantsStep.cancelSearch (s : State) (id : Identity) : GrantsStep s (s.cancelSearch id) :=
  .of_records_eq (cancelSearch_sameApart s id) (cancelSearch_records s id) (cancelSearch_part s id)

theorem KeysStep.identities (h : KeysStep s t) : t.records.map (·.identity) = s.records.map (·.identity) := by
  have hk := congrArg (List.map Prod.fst) h.keys
  rw [List.map_map, List.map_map] at hk
  exact hk

theorem KeysStep.positions (h : KeysStep s t) : t.records.map (·.position) = s.records.map (·.position) := by
  have hk := congrArg (List.map fun k => k.2.1) h.keys
  rw [List.map_map, List.map_map] at hk
  exact hk

theorem KeysStep.tableSound (h : KeysStep s t) (hs : s.TableSound) : t.TableSound :=
  tableSound_of_keys h.identities h.positions hs

theorem KeysStep.running (h : KeysStep s t) : t.running = s.running := by rw [h.apart]; rfl

theorem KeysStep.profileOf (h : KeysStep s t) (r : Record) : t.profileOf r = s.profileOf r :=
  sameApart_profileOf h.apart r

/-! ## The block end -/

theorem supervisorRequest_grantsStep (s : State) (id : Identity) : GrantsStep s (s.supervisorRequest id) := by
  unfold State.supervisorRequest
  split
  · split
    · exact .request s _ _
    · exact .refl s
  · exact .refl s

theorem detectClip_grantsStep (s : State) (r : Record) : GrantsStep s (s.detectClip r) := by
  unfold State.detectClip
  split
  · exact (GrantsStep.update s _ keysKept_countClip).trans (.of_poolStep (raiseAlarm_poolStep _ _ _))
  · exact .refl s

theorem handleClass_grantsStep (s : State) (id : Identity) (c : BlockClass) : GrantsStep s (s.handleClass id c) := by
  cases c with
  | divergent =>
    exact ((GrantsStep.update s id keysKept_divergeRecord).trans (.of_poolStep (raiseAlarm_poolStep _ _ _))).trans
      (supervisorRequest_grantsStep _ _)
  | passing =>
    refine (GrantsStep.update s id keysKept_passBlock).trans ?_
    change GrantsStep _ (State.promoteIfDue _ id)
    unfold State.promoteIfDue
    split
    · split
      · exact .update _ id keysKept_promoteRecord
      · exact .refl _
    · exact .refl _
  | failing =>
    refine (GrantsStep.update s id keysKept_failBlock).trans ?_
    change GrantsStep _ (State.changePathIfDue _ id)
    unfold State.changePathIfDue
    split
    · split
      · exact (GrantsStep.update _ id keysKept_changePathRecord).trans (supervisorRequest_grantsStep _ _)
      · exact .refl _
    · exact .refl _
  | marginal => exact .update s id keysKept_marginalBlock

theorem supervise_grantsStep (s : State) (id : Identity) : GrantsStep s (s.supervise id) := by
  unfold State.supervise
  split
  · split
    · refine GrantsStep.trans ?_ (handleClass_grantsStep _ _ _)
      unfold State.testEcho
      split
      · exact .of_poolStep (raiseAlarm_poolStep _ _ _)
      · exact .refl s
    · exact .refl s
  · exact .refl s

theorem returnIfDue_grantsStep (s : State) (id : Identity) : GrantsStep s (s.returnIfDue id) := by
  have back := GrantsStep.update s id keysKept_returnRecord
  unfold State.returnIfDue
  split
  · split
    · split
      · exact back.trans (.request _ _ _)
      · exact back
    · exact .refl s
  · exact .refl s

theorem enterBypassIfDue_grantsStep (s : State) (id : Identity) : GrantsStep s (s.enterBypassIfDue id) := by
  unfold State.enterBypassIfDue
  split
  · split
    · exact (GrantsStep.update s id keysKept_bypassRecord).trans (.cancelSearch _ _)
    · exact .refl s
  · exact .refl s

theorem toneWork_grantsStep (s : State) (id : Identity) : GrantsStep s (s.toneWork id) := by
  unfold State.toneWork
  split
  · rename_i r _
    have revised := GrantsStep.update s id (keysKept_reviseToneOrQuiet (s.profileOf r))
    dsimp only
    split
    · exact revised.trans (returnIfDue_grantsStep _ _)
    · exact revised.trans (enterBypassIfDue_grantsStep _ _)
  · exact .refl s

theorem lapseIfDue_grantsStep (s : State) (id : Identity) : GrantsStep s (s.lapseIfDue id) := by
  unfold State.lapseIfDue
  split
  · split
    · exact (((GrantsStep.update s id keysKept_lapseRecord).trans (.of_poolStep (releaseAll_poolStep _ _))).trans
        (.cancelSearch _ _)).trans (.of_records_eq rfl rfl rfl)
    · exact .refl s
  · exact .refl s

theorem idleWork_grantsStep (s : State) (id : Identity) : GrantsStep s (s.idleWork id) := by
  unfold State.idleWork
  split
  · exact (GrantsStep.update s id (keysKept_reviseIdle _)).trans (lapseIfDue_grantsStep _ _)
  · exact .refl s

theorem wholeBlockWork_grantsStep (s : State) (r : Record) : GrantsStep s (s.wholeBlockWork r) :=
  ((((GrantsStep.update s _ (keysKept_measureBlock _)).trans (supervise_grantsStep _ _)).trans
    (.update _ _ keysKept_countConverged)).trans (toneWork_grantsStep _ _)).trans (idleWork_grantsStep _ _)

theorem recordBlockEnd_grantsStep (s : State) (r : Record) : GrantsStep s (s.recordBlockEnd r) := by
  unfold State.recordBlockEnd
  split
  · exact .refl s
  · refine GrantsStep.trans ?_ (.update _ _ keysKept_closeBlock)
    split
    · exact (detectClip_grantsStep s r).trans (wholeBlockWork_grantsStep _ _)
    · exact detectClip_grantsStep s r

theorem positionBlockEnd_grantsStep (s : State) (p : Position) : GrantsStep s (s.positionBlockEnd p) := by
  unfold State.positionBlockEnd
  split
  · exact recordBlockEnd_grantsStep _ _
  · exact .refl s

theorem foldl_positionBlockEnd_grantsStep (ps : List Position) (s : State) :
    GrantsStep s (ps.foldl State.positionBlockEnd s) := by
  induction ps generalizing s with
  | nil => exact .refl s
  | cons p ps ih => exact (positionBlockEnd_grantsStep s p).trans (ih _)

theorem with_blockEndDue_eq_self (h : s.blockEndDue = false) : ({ s with blockEndDue := false } : State) = s := by
  cases s
  cases h
  rfl

/-- The block end keeps the keys, and clears the mark by which it is due (R34). -/
theorem endBlock_keysStep (s : State) : KeysStep { s with blockEndDue := false } s.endBlock := by
  unfold State.endBlock
  split
  · obtain ⟨⟨ha, hk⟩, -⟩ := foldl_positionBlockEnd_grantsStep allPositions s
    generalize allPositions.foldl State.positionBlockEnd s = v at ha hk ⊢
    refine ⟨?_, hk⟩
    rw [sameApart_iff] at ha ⊢
    tauto
  · rename_i h
    have hd : s.blockEndDue = false := by simpa using h
    rw [with_blockEndDue_eq_self hd]
    exact .refl s

theorem endBlock_of_not_due (h : s.blockEndDue = false) : s.endBlock = s := by simp [State.endBlock, h]

/-! ## The ends of searches -/

theorem install_grantsStep (s : State) (r : Record) (placement : List Nat) : GrantsStep s (s.install r placement) := by
  rw [install_eq]
  exact ((GrantsStep.of_poolStep (placed_poolStep s r placement)).trans (.update _ _ (keysKept_settleState _))).trans
    (.of_poolStep (grantAll_poolStep _))

theorem judgeSearch_grantsStep (s : State) (r : Record) (sl : Slot) : GrantsStep s (s.judgeSearch r sl) := by
  unfold State.judgeSearch
  split
  · exact (GrantsStep.update s _ (keysKept_noteResult _)).trans (install_grantsStep _ _ _)
  · exact (GrantsStep.update s _ (keysKept_noteResult _)).trans (.of_poolStep (releaseAll_poolStep _ _))

theorem completeSearch_grantsStep (s : State) (id : Identity) : GrantsStep s (s.completeSearch id) := by
  unfold State.completeSearch
  split
  · split
    · exact ((GrantsStep.of_records_eq (t := s.freeSlot id) rfl rfl rfl).trans (judgeSearch_grantsStep _ _ _)).trans
        (.arbitrate _)
    · exact .refl s
  · exact .refl s

theorem timeOutSearch_keysStep (s : State) (id : Identity) : KeysStep s (s.timeOutSearch id) := by
  unfold State.timeOutSearch
  split
  · split
    · refine KeysStep.trans ?_ (GrantsStep.arbitrate _).toKeysStep
      exact ⟨rfl, update_keys (s.freeSlot id) id keysKept_inconclusiveRecord⟩
    · exact .refl s
  · exact .refl s

/-- The end of the search of the record at a position, if it is due (R103, R108, R110). -/
def State.endSearchAt (s : State) (p : Position) : State :=
  match s.recordAt p with
  | some r => (s.completeSearch r.identity).timeOutSearch r.identity
  | none => s

theorem endSearches_eq_foldl (s : State) : s.endSearches = allPositions.foldl State.endSearchAt s := rfl

theorem endSearchAt_of_some {p : Position} (h : s.recordAt p = some r) :
    s.endSearchAt p = (s.completeSearch r.identity).timeOutSearch r.identity := by simp only [State.endSearchAt, h]

theorem endSearchAt_of_none {p : Position} (h : s.recordAt p = none) : s.endSearchAt p = s := by
  simp only [State.endSearchAt, h]

/-- What the ends of one record's search keep, the ends of all searches of a frame keep. -/
theorem endSearches_induction {P : State → Prop} (complete : ∀ u id, P u → P (u.completeSearch id))
    (timeOut : ∀ u id, P u → P (u.timeOutSearch id)) (h : P s) : P s.endSearches := by
  have key (ps : List Position) (u : State) (hu : P u) : P (ps.foldl State.endSearchAt u) := by
    induction ps generalizing u with
    | nil => exact hu
    | cons p ps ih =>
      refine ih _ ?_
      cases hat : u.recordAt p with
      | none => rwa [endSearchAt_of_none hat]
      | some q =>
        rw [endSearchAt_of_some hat]
        exact timeOut _ _ (complete _ _ hu)
  rw [endSearches_eq_foldl]
  exact key allPositions s h

theorem endSearches_keysStep (s : State) : KeysStep s s.endSearches :=
  endSearches_induction (P := KeysStep s) (fun _ _ h => h.trans (completeSearch_grantsStep _ _).toKeysStep)
    (fun _ _ h => h.trans (timeOutSearch_keysStep _ _)) (.refl s)

/-- With no search at the count that ends it, none ends (R103, R110). -/
theorem endSearches_eq_self (h : ∀ sl ∈ s.slots, sl.qualifying < 2048 ∧ sl.elapsed < 16000) : s.endSearches = s := by
  have live {id : Identity} {sl : Slot} (hsl : s.slots.find? (·.identity == id) = some sl) :
      searchDone sl = false ∧ searchExpired sl = false := by
    obtain ⟨hq, he⟩ := h sl (find_slot hsl).1
    simp [searchDone, searchExpired, hq, he]
  have complete (id : Identity) : s.completeSearch id = s := by
    unfold State.completeSearch
    split
    · rename_i hsl
      rw [(live hsl).1, if_neg Bool.false_ne_true]
    · rfl
  have timeOut (id : Identity) : s.timeOutSearch id = s := by
    unfold State.timeOutSearch
    split
    · rename_i hsl
      rw [(live hsl).2, if_neg Bool.false_ne_true]
    · rfl
  exact endSearches_induction (P := fun u => u = s) (fun u id hu => by rw [hu, complete]) (fun u id hu => by rw [hu, timeOut])
    rfl

/-! ## The records through the ends of searches -/

/-- The changes to a record that the end of a search, its own or another's, can make. -/
def Record.SearchChange (r q : Record) : Prop :=
  q = { r with
    state := q.state, passCount := q.passCount, failCount := q.failCount, held := q.held, unplaced := q.unplaced
    alarms := q.alarms, lastResult := q.lastResult, tallies := q.tallies }

theorem searchChange_refl (r : Record) : r.SearchChange r := rfl

theorem searchChange_trans (a b c : Record) (h : a.SearchChange b) (k : b.SearchChange c) : a.SearchChange c := by
  unfold Record.SearchChange at *
  rw [k, h]

theorem searchChange_of_poolChange (r q : Record) (h : r.PoolChange q) : r.SearchChange q := by
  unfold Record.SearchChange Record.PoolChange at *
  rw [h]

theorem searchChange_identity (r q : Record) (h : r.SearchChange q) : q.identity = r.identity := by rw [h]

theorem searchChange_settleState (before : List Nat) (r : Record) : r.SearchChange (settleState before r) := by
  unfold settleState
  split <;> rfl

/-- Every record changed at most as the end of a search changes it. -/
abbrev SearchChanges (s t : State) : Prop := List.Forall₂ Record.SearchChange s.records t.records

theorem SearchChanges.refl (s : State) : SearchChanges s s := List.forall₂_same.2 fun r _ => searchChange_refl r

theorem SearchChanges.trans (h : SearchChanges s t) (k : SearchChanges t u) : SearchChanges s u :=
  forall2_trans searchChange_trans h k

theorem SearchChanges.of_poolStep (h : PoolStep s t) : SearchChanges s t := h.records.imp searchChange_of_poolChange

theorem SearchChanges.update (s : State) (id : Identity) {f : Record → Record} (hf : ∀ r, Record.SearchChange r (f r)) :
    SearchChanges s (s.update id f) := forall2_update s id (fun r _ => searchChange_refl r) fun r _ _ => hf r

theorem judgeSearch_searchChanges (s : State) (r : Record) (sl : Slot) : SearchChanges s (s.judgeSearch r sl) := by
  have note (res : SearchResult) : SearchChanges s (s.update r.identity (noteResult res)) := .update s _ fun _ => rfl
  unfold State.judgeSearch
  split
  · rw [install_eq]
    exact (((note _).trans (.of_poolStep (placed_poolStep _ _ _))).trans
      (.update _ _ (searchChange_settleState _))).trans (.of_poolStep (grantAll_poolStep _))
  · exact (note _).trans (.of_poolStep (releaseAll_poolStep _ _))

theorem completeSearch_searchChanges (s : State) (id : Identity) : SearchChanges s (s.completeSearch id) := by
  unfold State.completeSearch
  split
  · split
    · rename_i q sl _ _ _
      have h := judgeSearch_searchChanges (s.freeSlot id) q sl
      rw [SearchChanges, ← arbitrate_records (State.judgeSearch _ _ _)] at h
      exact h
    · exact .refl s
  · exact .refl s

theorem timeOutSearch_searchChanges (s : State) (id : Identity) : SearchChanges s (s.timeOutSearch id) := by
  unfold State.timeOutSearch
  split
  · split
    · rw [SearchChanges, arbitrate_records]
      exact SearchChanges.update (s.freeSlot id) id (f := inconclusiveRecord) fun _ => rfl
    · exact .refl s
  · exact .refl s

/-- What the identity index finds after the ends of the searches of a frame. -/
theorem recordOf_endSearches (h : s.recordOf id = some r) :
    ∃ q, s.endSearches.recordOf id = some q ∧ r.SearchChange q :=
  forall2_recordOf searchChange_identity
    (endSearches_induction (P := SearchChanges s) (fun _ _ h => h.trans (completeSearch_searchChanges _ _))
      (fun _ _ h => h.trans (timeOutSearch_searchChanges _ _)) (.refl s)) h

end Sys2Proof.Machine
end

section
/-! SUPPORT. One frame: the frame work of every record, what the positions send, and what the ends of searches leave of a
record that has no search (O5, O6, O7, O13). -/

namespace Sys2Proof.Machine

variable {s t : State} {id j : Identity} {r q : Record} {tin xin : List Sample}

/-! ## The frame before its searches end -/

/-- The part after a frame's work and the accumulation of the searches, before those that are due end (R36, R101). -/
def State.worked (s : State) (tin xin : List Sample) : State :=
  (s.advancePhase.workFrame tin xin).accumulateSearches xin

theorem exec_frameSync (hrun : s.running = true) (tin xin : List Sample) :
    exec (.frameSync tin xin) s = .next (s.endBlock.worked tin xin).endSearches :=
  whileRunning_of_running hrun fun s => s.takeFrame tin xin

theorem exec_frameSync_of_not_due (hrun : s.running = true) (hdue : s.blockEndDue = false) (tin xin : List Sample) :
    exec (.frameSync tin xin) s = .next (s.worked tin xin).endSearches := by
  rw [exec_frameSync hrun, endBlock_of_not_due hdue]

theorem worked_records (s : State) (tin xin : List Sample) :
    (s.worked tin xin).records = s.records.map (s.framed tin xin) := workFrame_records s.advancePhase tin xin

theorem framed_identity (s : State) (tin xin : List Sample) (r : Record) :
    (s.framed tin xin r).identity = r.identity := (mild_frameOf _ _ _ _).identity

theorem framed_position (s : State) (tin xin : List Sample) (r : Record) :
    (s.framed tin xin r).position = r.position := frameOf_position _ _ _ _

theorem framed_of_lapsed (h : r.state = .lapsed) : s.framed tin xin r = r := by
  rw [State.framed, frameOf_record, if_pos h]

/-- A record that is not LAPSED after its frame work (R36). -/
theorem framed_of_live (h : r.state ≠ .lapsed) : s.framed tin xin r =
    recordAfterFrame r (frameStages (s.profileOf r) r (sampleAt tin r.position) (sampleAt xin r.position))
      (sampleAt tin r.position) (sampleAt xin r.position) := by
  rw [State.framed, frameOf_record, if_neg h]

theorem recordOf_worked (hs : s.TableSound) (hr : r ∈ s.records) :
    (s.worked tin xin).recordOf r.identity = some (s.framed tin xin r) := by
  have hids : (s.worked tin xin).records.map (·.identity) = s.records.map (·.identity) := by
    rw [worked_records, List.map_map]
    exact List.map_congr_left fun r _ => framed_identity s tin xin r
  have hnd : ((s.worked tin xin).records.map (·.identity)).Nodup := hids ▸ hs.2.1
  rw [← framed_identity s tin xin r]
  exact recordOf_of_mem hnd (worked_records s tin xin ▸ List.mem_map_of_mem hr)

theorem worked_slots (s : State) (tin xin : List Sample) :
    (s.worked tin xin).slots.map (·.identity) = s.slots.map (·.identity) := by
  rw [State.worked, State.accumulateSearches, List.map_map]
  refine List.map_congr_left fun sl _ => ?_
  simp only [Function.comp]
  split
  · exact accumulateSlot_identity _ _ _ _
  · rfl

/-- A frame adds at most one to either count of a slot (R101, R102). -/
theorem worked_noSearchEnds (h : s.NoSearchEnds) :
    ∀ sl ∈ (s.worked tin xin).slots, sl.qualifying < 2048 ∧ sl.elapsed < 16000 := by
  intro sl hsl
  obtain ⟨x, hx, rfl⟩ := List.mem_map.1 hsl
  obtain ⟨hq, he⟩ := h x hx
  split
  · unfold accumulateSlot
    split
    · exact ⟨Nat.succ_lt_succ hq, Nat.succ_lt_succ he⟩
    · exact ⟨hq.trans (Nat.lt_succ_self _), Nat.succ_lt_succ he⟩
  · exact ⟨by omega, by omega⟩

theorem exec_frameSync_of_noSearchEnds (hrun : s.running = true) (hdue : s.blockEndDue = false) (h : s.NoSearchEnds)
    (tin xin : List Sample) : exec (.frameSync tin xin) s = .next (s.worked tin xin) := by
  rw [exec_frameSync_of_not_due hrun hdue, endSearches_eq_self (worked_noSearchEnds h)]

/-! ## The samples that the positions send -/

theorem timeslotOf_map_allPositions (f : Position → Sample) (p : Position) :
    timeslotOf (allPositions.map f) p = f p := by
  simp [timeslotOf, allPositions]

/-- The frame result that a position finds, of the record bound to it. -/
theorem find_frameResults (s : State) (tin xin : List Sample) (p : Position) :
    (s.frameResults tin xin).find? (fun f => f.record.position == p) =
      (s.recordAt p).map fun r => frameOf (s.profileOf r) r (sampleAt tin r.position) (sampleAt xin r.position) := by
  simp only [State.frameResults, State.recordAt, List.find?_map]
  congr 1
  apply congrArg (fun g => List.find? g s.records)
  funext r
  simp [frameOf_position]

theorem worked_nextExchangeOut (s : State) (tin xin : List Sample) (p : Position) :
    timeslotOf (s.worked tin xin).nextExchangeOut p =
      match s.recordAt p with
      | some r => (frameOf (s.profileOf r) r (sampleAt tin r.position) (sampleAt xin r.position)).xout
      | none => sampleAt tin p := by
  change timeslotOf (allPositions.map (exchangeOutAt (s.frameResults tin xin) tin)) p = _
  rw [timeslotOf_map_allPositions, exchangeOutAt, find_frameResults]
  cases s.recordAt p <;> rfl

theorem worked_nextTrunkOut (s : State) (tin xin : List Sample) (p : Position) :
    timeslotOf (s.worked tin xin).nextTrunkOut p =
      match s.recordAt p with
      | some r => (frameOf (s.profileOf r) r (sampleAt tin r.position) (sampleAt xin r.position)).tout
      | none => sampleAt xin p := by
  change timeslotOf (allPositions.map (trunkOutAt (s.frameResults tin xin) xin)) p = _
  rw [timeslotOf_map_allPositions, trunkOutAt, find_frameResults]
  cases s.recordAt p <;> rfl

theorem frame_nextExchangeOut (s : State) (tin xin : List Sample) :
    (s.worked tin xin).endSearches.nextExchangeOut = (s.worked tin xin).nextExchangeOut := by
  rw [(endSearches_keysStep _).apart]

theorem frame_nextTrunkOut (s : State) (tin xin : List Sample) :
    (s.worked tin xin).endSearches.nextTrunkOut = (s.worked tin xin).nextTrunkOut := by
  rw [(endSearches_keysStep _).apart]

/-- What a frame makes of a record: what its frame work leaves, changed at most by the ends of searches, and the samples
sent from its position (R36). -/
theorem frame_of_record (hrun : s.running = true) (hdue : s.blockEndDue = false) (hs : s.TableSound) (hr : r ∈ s.records)
    (tin xin : List Sample) :
    ∃ t q, exec (.frameSync tin xin) s = .next t ∧ t.recordOf r.identity = some q ∧
      (s.framed tin xin r).SearchChange q ∧
      timeslotOf t.nextExchangeOut r.position =
        (frameOf (s.profileOf r) r (sampleAt tin r.position) (sampleAt xin r.position)).xout ∧
      timeslotOf t.nextTrunkOut r.position =
        (frameOf (s.profileOf r) r (sampleAt tin r.position) (sampleAt xin r.position)).tout := by
  obtain ⟨q, hq, hchange⟩ := recordOf_endSearches (recordOf_worked (tin := tin) (xin := xin) hs hr)
  have hat := (recordAt_eq_some_iff hs).2 ⟨hr, rfl⟩
  refine ⟨_, q, exec_frameSync_of_not_due hrun hdue tin xin, hq, hchange, ?_, ?_⟩
  · rw [frame_nextExchangeOut, worked_nextExchangeOut, hat]
  · rw [frame_nextTrunkOut, worked_nextTrunkOut, hat]

/-- The same of a record that is not LAPSED, by the stages of its frame work. -/
theorem frame_of_live (hrun : s.running = true) (hdue : s.blockEndDue = false) (hs : s.TableSound) (hr : r ∈ s.records)
    (hl : r.state ≠ .lapsed) (tin xin : List Sample) {w : FrameWork}
    (hw : w = frameStages (s.profileOf r) r (sampleAt tin r.position) (sampleAt xin r.position)) :
    ∃ t q, exec (.frameSync tin xin) s = .next t ∧ t.recordOf r.identity = some q ∧
      q.history = w.history ∧ q.talk = w.talk ∧ q.noise = w.noise ∧
      q.block = accumulate r w (sampleAt tin r.position) (sampleAt xin r.position) r.block ∧
      timeslotOf t.nextExchangeOut r.position = w.xout ∧ timeslotOf t.nextTrunkOut r.position = w.tout := by
  obtain ⟨t, q, ht, hq, hchange, hx, ho⟩ := frame_of_record hrun hdue hs hr tin xin
  rw [framed_of_live hl, ← hw] at hchange
  have hframe : frameOf (s.profileOf r) r (sampleAt tin r.position) (sampleAt xin r.position) =
      { record := recordAfterFrame r w (sampleAt tin r.position) (sampleAt xin r.position), xout := w.xout
        tout := w.tout } := by
    rw [frameOf, if_neg hl, hw]
  rw [hframe] at hx ho
  refine ⟨t, q, ht, hq, ?_, ?_, ?_, ?_, hx, ho⟩ <;> rw [hchange] <;> rfl

/-! ## A record without search through the ends of searches -/

theorem recordOf_update_of_ne (s : State) (hne : j ≠ id) {f : Record → Record} (hf : KeysKept f) :
    (s.update id f).recordOf j = s.recordOf j := recordOf_update_other s hne hf.identity

theorem recordOf_returnWindows_other (s : State) (hne : j ≠ id) : (s.returnWindows id).recordOf j = s.recordOf j := by
  unfold State.returnWindows
  split
  · exact recordOf_update_other s hne (f := Record.emptied) fun _ => rfl
  · rfl

theorem recordOf_placed_other (s : State) (hne : j ≠ r.identity) (placement : List Nat) :
    (s.placed r placement).recordOf j = s.recordOf j := by
  have hclaimed : (s.claimed r placement).recordOf j = s.recordOf j :=
    (recordOf_update_other (s.returnWindows r.identity) hne (f := Record.holding _) fun _ => rfl).trans
      (recordOf_returnWindows_other s hne)
  unfold State.placed
  split
  · exact hclaimed
  · refine Eq.trans (recordOf_raiseAlarm_other _ hne .windowShort) (Eq.trans ?_ hclaimed)
    exact recordOf_update_other (s.claimed r placement) hne (f := fun q => { q with unplaced := _ }) fun _ => rfl

/-- The judgement of another record's search leaves a record as it was, but for grants (R109, R123). -/
theorem recordOf_judgeSearch_other (hs : s.TableSound) (hne : j ≠ r.identity) (hq : s.recordOf j = some q) (sl : Slot) :
    ∃ k, (s.judgeSearch r sl).recordOf j = some (q.granted k) := by
  have noted (res : SearchResult) : (s.update r.identity (noteResult res)).recordOf j = some q :=
    (recordOf_update_of_ne s hne (keysKept_noteResult res)).trans hq
  have hnoted (res : SearchResult) := (update_rowsKept s r.identity (keysKept_noteResult res)).tableSound hs
  unfold State.judgeSearch
  split
  · rw [install_eq]
    have hplaced := (placed_poolStep _ r (searchPlacement (s.profileOf r).windowLimit sl.correlation)).tableSound
      (hnoted .placed)
    refine recordOf_grantAll ((update_rowsKept _ _ (keysKept_settleState _)).tableSound hplaced) ?_
    exact (recordOf_update_of_ne _ hne (keysKept_settleState _)).trans ((recordOf_placed_other _ hne _).trans (noted _))
  · exact recordOf_grantAll ((returnWindows_poolStep _ _).tableSound (hnoted .noEcho))
      ((recordOf_returnWindows_other _ hne).trans (noted _))

theorem recordOf_completeSearch_other (hs : s.TableSound) (hne : j ≠ id) (hq : s.recordOf j = some q) :
    ∃ k, (s.completeSearch id).recordOf j = some (q.granted k) := by
  unfold State.completeSearch
  split
  · rename_i r sl hr _
    obtain ⟨-, rfl⟩ := recordOf_some hr
    split
    · rw [recordOf_congr (arbitrate_records _)]
      exact recordOf_judgeSearch_other (s := s.freeSlot r.identity) hs hne hq sl
    · exact ⟨0, hq⟩
  · exact ⟨0, hq⟩

theorem recordOf_timeOutSearch_other (s : State) (hne : j ≠ id) : (s.timeOutSearch id).recordOf j = s.recordOf j := by
  unfold State.timeOutSearch
  split
  · split
    · rw [recordOf_congr (arbitrate_records _)]
      exact recordOf_update_of_ne (s.freeSlot id) hne keysKept_inconclusiveRecord
    · rfl
  · rfl

/-- The search of a record that is in no slot does not end. -/
theorem endSearch_of_not_searching (h : id ∉ s.searching) : s.completeSearch id = s ∧ s.timeOutSearch id = s := by
  have hnone : s.slots.find? (·.identity == id) = none := by
    rw [List.find?_eq_none]
    intro sl hsl hi
    exact h (mem_searching.2 (.inl ⟨sl, hsl, by simpa using hi⟩))
  constructor
  · unfold State.completeSearch
    rw [hnone]
    cases s.recordOf id <;> rfl
  · unfold State.timeOutSearch
    rw [hnone]

/-- A LAPSED record with nothing of the pool, in a part whose table and search unit are sound (R4, R95). -/
structure LapsedIn (r : Record) (s : State) : Prop where
  table : s.TableSound
  search : s.SearchSound
  own : s.recordOf r.identity = some r
  lapsed : r.state = .lapsed
  unplaced : r.unplaced = []

theorem LapsedIn.not_searching (h : LapsedIn r s) : r.identity ∉ s.searching := by
  intro hmem
  obtain ⟨x, hx, hc, hi⟩ := mem_cancelling.1 (h.search.2.2.1 hmem)
  rw [eq_of_identity_eq h.table hx (recordOf_some h.own).1 hi, h.lapsed] at hc
  cases hc

theorem LapsedIn.completeSearch (h : LapsedIn r s) (id : Identity) : LapsedIn r (s.completeSearch id) := by
  by_cases hid : id = r.identity
  · subst hid
    rwa [(endSearch_of_not_searching h.not_searching).1]
  · have hm : TableMove True s (s.completeSearch id) := .complete id
    obtain ⟨k, hk⟩ := recordOf_completeSearch_other h.table (Ne.symm hid) h.own
    rw [granted_of_unplaced_nil h.unplaced] at hk
    exact ⟨hm.tableSound trivial h.table, hm.searchSound trivial h.table h.search, hk, h.lapsed, h.unplaced⟩

theorem LapsedIn.timeOutSearch (h : LapsedIn r s) (id : Identity) : LapsedIn r (s.timeOutSearch id) := by
  by_cases hid : id = r.identity
  · subst hid
    rwa [(endSearch_of_not_searching h.not_searching).2]
  · have hm : TableMove True s (s.timeOutSearch id) := .timeOut id
    exact ⟨hm.tableSound trivial h.table, hm.searchSound trivial h.table h.search,
      (recordOf_timeOutSearch_other s (Ne.symm hid)).trans h.own, h.lapsed, h.unplaced⟩

theorem LapsedIn.endSearches (h : LapsedIn r s) : LapsedIn r s.endSearches :=
  endSearches_induction (P := LapsedIn r) (fun _ id hu => hu.completeSearch id) (fun _ id hu => hu.timeOutSearch id) h

/-- The frame work leaves a LAPSED record and every place in the search unit (R35). -/
theorem LapsedIn.worked (h : LapsedIn r s) (tin xin : List Sample) : LapsedIn r (s.worked tin xin) := by
  have hm : Moves True s.advancePhase (s.advancePhase.workFrame tin xin) :=
    workFrame_moves (s := s.advancePhase) (fun _ => h.table) tin xin
  obtain ⟨htable, hsearch⟩ := hm.keep (P := fun u => u.TableSound ∧ u.SearchSound)
    (fun _ _ hm ⟨ht, hse⟩ => ⟨hm.tableSound trivial ht, hm.searchSound trivial ht hse⟩) ⟨h.table, h.search⟩
  refine ⟨htable, accumulateSearches_searchSound xin hsearch, ?_, h.lapsed, h.unplaced⟩
  rw [recordOf_worked h.table (recordOf_some h.own).1, framed_of_lapsed h.lapsed]

theorem keysStep_recordAt_none (h : KeysStep s t) {p : Position} (hp : s.recordAt p = none) : t.recordAt p = none := by
  rw [recordAt_eq_none_iff] at hp ⊢
  intro q hq hqp
  have hmem : q.position ∈ s.records.map (·.position) := h.positions ▸ List.mem_map_of_mem hq
  obtain ⟨x, hx, hxp⟩ := List.mem_map.1 hmem
  exact hp x hx (hxp.trans hqp)

theorem worked_recordAt_none {p : Position} (hp : s.recordAt p = none) : (s.worked tin xin).recordAt p = none := by
  rw [recordAt_eq_none_iff] at hp ⊢
  intro q hq
  rw [worked_records] at hq
  obtain ⟨x, hx, rfl⟩ := List.mem_map.1 hq
  rw [framed_position]
  exact hp x hx

/-- What a frame sends is what the frame before it computed, whatever is due (R32). -/
theorem frame_highways (hrun : s.running = true) (tin xin : List Sample) :
    ∃ t, exec (.frameSync tin xin) s = .next t ∧ t.trunkOut = s.nextTrunkOut ∧ t.exchangeOut = s.nextExchangeOut := by
  refine ⟨_, exec_frameSync hrun tin xin, ?_, ?_⟩
  · rw [(endSearches_keysStep _).apart]
    change s.endBlock.nextTrunkOut = _
    rw [(endBlock_keysStep s).apart]
  · rw [(endSearches_keysStep _).apart]
    change s.endBlock.nextExchangeOut = _
    rw [(endBlock_keysStep s).apart]

/-! ## The part after a frame -/

theorem nextPhase_val (f : Fin 64) : (nextPhase f).val = (f.val + 1) % 64 := Fin.val_add f 1

/-- What a frame leaves of the part beside the table, the search unit, the pool, the summary and the part tallies, whatever
was due before it (R32, R34). -/
theorem frame_apart (s : State) (tin xin : List Sample) {t : State} (ht : t = (s.endBlock.worked tin xin).endSearches) :
    t = { s with
      phase := nextPhase s.phase, blockEndDue := nextPhase s.phase == 63
      trunkOut := s.nextTrunkOut, exchangeOut := s.nextExchangeOut, nextTrunkOut := t.nextTrunkOut
      nextExchangeOut := t.nextExchangeOut, records := t.records, priorityLane := t.priorityLane
      ordinaryLane := t.ordinaryLane, slots := t.slots, free := t.free, waiting := t.waiting, summary := t.summary
      part := t.part } := by
  have hends := endSearches_keysStep (s.endBlock.worked tin xin)
  have hblock := sameApart_iff.1 (endBlock_keysStep s).apart
  rw [← ht] at hends
  have happart := hends.apart
  have hsent := sameApart_iff.1 happart
  generalize s.endBlock = e at *
  obtain ⟨h1, h2, h3, h4, h5, h6, h7, h8, h9, h10, h11, h12, h13, h14, h15⟩ := hblock
  obtain ⟨-, -, -, -, -, -, h7', h8', -⟩ := hsent
  refine happart.trans ?_
  rw [h7', h8']
  simp [State.worked, State.accumulateSearches, State.workFrame, State.advancePhase, h1, h2, h3, h7, h8, h9, h10, h11,
    h12, h13, h14, h15]

/-- A frame keeps the order and the keys of the records (R34, R36). -/
theorem frame_keys (s : State) (tin xin : List Sample) :
    (s.endBlock.worked tin xin).endSearches.records.map Record.keys = s.records.map Record.keys := by
  rw [(endSearches_keysStep _).keys, worked_records, List.map_map, ← (endBlock_keysStep s).keys]
  refine List.map_congr_left fun r _ => ?_
  rw [Function.comp, Record.keys, framed_identity, framed_position,
    show (s.endBlock.framed tin xin r).profile = r.profile from (tame_frameOf _ _ _ _).profile]
  rfl

/-- What the frame work leaves of a record is its identity and all that no stage of it writes (R36, R42, R45). -/
theorem framed_eq (s : State) (tin xin : List Sample) (r : Record) : s.framed tin xin r =
    { r with
      history := (s.framed tin xin r).history, talk := (s.framed tin xin r).talk
      nearHold := (s.framed tin xin r).nearHold, noise := (s.framed tin xin r).noise
      held := (s.framed tin xin r).held, block := (s.framed tin xin r).block } := by
  rw [State.framed, frameOf_record]
  split <;> rfl

end Sys2Proof.Machine

open Sys2Proof Sys2Proof.Machine

/-- Settles O5: the block end, the frame work and the ends of searches keep the keys and all that the frame does not
name; where no search ends the frame work is all there is. -/
theorem frameHighwaysAndPhase : Obligations.FrameHighwaysAndPhase := by
  refine ⟨fun s tin xin hrun => ?_, fun s straps tin xin => ?_⟩
  · have hkeys := frame_keys s tin xin
    have hexec := exec_frameSync hrun tin xin
    have hlen : (s.endBlock.worked tin xin).nextTrunkOut.length = 128 ∧
        (s.endBlock.worked tin xin).nextExchangeOut.length = 128 := by
      simp [State.worked, State.accumulateSearches, State.workFrame, allPositions]
    rw [← frame_nextTrunkOut, ← frame_nextExchangeOut] at hlen
    obtain ⟨t, ht⟩ : ∃ t, t = (s.endBlock.worked tin xin).endSearches := ⟨_, rfl⟩
    have happart := frame_apart s tin xin ht
    rw [← ht] at hexec hkeys hlen
    have hphase : t.phase = nextPhase s.phase := by rw [happart]
    have hdue : t.blockEndDue = (nextPhase s.phase == 63) := by rw [happart]
    refine ⟨t, hexec, by rw [happart], by rw [happart], hlen.1, hlen.2, ?_, ?_, ?_, ?_, fun hdue hno => ?_⟩
    · rw [hphase]
      exact nextPhase_val s.phase
    · rw [hdue, hphase, beq_iff_eq]
    · have hk := congrArg (List.map fun k : Identity × Position × ProfileNumber => (k.1, k.2.1)) hkeys
      rw [List.map_map, List.map_map] at hk
      exact hk
    · refine happart.trans ?_
      rw [hphase, hdue, show t.trunkOut = s.nextTrunkOut by rw [happart],
        show t.exchangeOut = s.nextExchangeOut by rw [happart]]
    · rw [endBlock_of_not_due hdue, endSearches_eq_self (worked_noSearchEnds hno)] at ht
      subst ht
      refine ⟨rfl, rfl, rfl, rfl, rfl, rfl, worked_slots s tin xin, fun hs r hr => ?_⟩
      exact ⟨_, recordOf_worked hs hr, fun hl => framed_of_lapsed hl, framed_eq s tin xin r⟩
  · refine ⟨_, _, rfl, exec_frameSync (s := s.resetPart straps.address (rateOf straps.rate)) ?_ tin xin, ?_, ?_, ?_⟩
    · rw [resetPart_eq]; rfl
    all_goals rw [frame_apart _ tin xin rfl, resetPart_eq]; rfl

/-- Settles O6. -/
theorem framePassesUnbound : Obligations.FramePassesUnbound := by
  intro s tin xin tin' xin' p hrun hdue hs hse hst hlapsed
  have hexec := exec_frameSync_of_not_due hrun hdue tin xin
  have hkept : (s.worked tin xin).endSearches.running = true := by
    rw [(endSearches_keysStep _).running]
    exact hrun
  obtain ⟨u, hu, hout, hxout⟩ := frame_highways hkept tin' xin'
  have hpass : timeslotOf (s.worked tin xin).endSearches.nextExchangeOut p = timeslotOf tin p ∧
      timeslotOf (s.worked tin xin).endSearches.nextTrunkOut p = timeslotOf xin p ∧
      (s.worked tin xin).endSearches.recordAt p = s.recordAt p := by
    rw [frame_nextExchangeOut, frame_nextTrunkOut, worked_nextExchangeOut, worked_nextTrunkOut]
    cases hat : s.recordAt p with
    | none => exact ⟨rfl, rfl, keysStep_recordAt_none (endSearches_keysStep _) (worked_recordAt_none hat)⟩
    | some r =>
      obtain ⟨hr, rfl⟩ := recordAt_some hat
      have hl := hlapsed r hat
      have hin : LapsedIn r s := ⟨hs, hse, recordOf_of_mem hs.2.1 hr, hl, ((stateSound_iff.1 (hst r hr)).2 (.inr hl)).2⟩
      have hleft := (hin.worked tin xin).endSearches
      dsimp only
      rw [frameOf, if_pos hl]
      exact ⟨rfl, rfl, (recordAt_eq_some_iff hleft.table).2 ⟨(recordOf_some hleft.own).1, rfl⟩⟩
  obtain ⟨hx, ho, hat⟩ := hpass
  exact ⟨_, hexec, hx, ho, hat, u, hu, hxout ▸ hx, hout ▸ ho⟩

/-- Settles O13: the frame work of a record is a function of the record, its profile and the two samples. -/
theorem frameIsolation : Obligations.FrameIsolation := by
  intro s₁ s₂ tin₁ xin₁ tin₂ xin₂ r hrun₁ hrun₂ hdue₁ hdue₂ hs₁ hs₂ hno₁ hno₂ hr₁ hr₂ hp htin hxin
  have hframe : frameOf (s₁.profileOf r) r (sampleAt tin₁ r.position) (sampleAt xin₁ r.position) =
      frameOf (s₂.profileOf r) r (sampleAt tin₂ r.position) (sampleAt xin₂ r.position) := by
    rw [show s₁.profileOf r = s₂.profileOf r from hp, show sampleAt tin₁ r.position = sampleAt tin₂ r.position from htin,
      show sampleAt xin₁ r.position = sampleAt xin₂ r.position from hxin]
  have hat₁ := (recordAt_eq_some_iff hs₁).2 ⟨hr₁, rfl⟩
  have hat₂ := (recordAt_eq_some_iff hs₂).2 ⟨hr₂, rfl⟩
  refine ⟨_, _, exec_frameSync_of_noSearchEnds hrun₁ hdue₁ hno₁ tin₁ xin₁,
    exec_frameSync_of_noSearchEnds hrun₂ hdue₂ hno₂ tin₂ xin₂, ?_, ?_, ?_, ?_⟩
  · rw [recordOf_worked hs₁ hr₁]
    rfl
  · rw [recordOf_worked hs₁ hr₁, recordOf_worked hs₂ hr₂]
    exact congrArg (fun f => some f.record) hframe
  · rw [worked_nextTrunkOut, worked_nextTrunkOut, hat₁, hat₂]
    exact congrArg FrameResult.tout hframe
  · rw [worked_nextExchangeOut, worked_nextExchangeOut, hat₁, hat₂]
    exact congrArg FrameResult.xout hframe
end

section
/-! SUPPORT. The stages of a record's frame work, as the obligations spell them out (O7, O9, O11). -/

namespace Sys2Proof.Machine

variable {p : Profile} {r : Record} {x : List Sample} {talk : TalkState}

/-! ## The chains -/

theorem narrowed_eq_saturate (v : Int) : narrowed v = saturate v := by
  unfold narrowed saturate saturateInt
  congr 1
  split
  · omega
  · split <;> omega

theorem scaled_eq_scaleQ (v : Sample) (m : Nat) : scaled v m = scaleQ v m := narrowed_eq_saturate _

theorem xoutOf_eq (p : Profile) (r : Record) (tin : Sample) : xoutOf p r tin = incomingChain p r tin := by
  rw [xoutOf, scaled_eq_scaleQ, scaled_eq_scaleQ]
  rfl

theorem historyAt_eq (s : State) (r : Record) (tin : Sample) :
    historyAt s r tin = writeHistory r.history (incomingChain (s.profileOf r) r tin) := by
  rw [historyAt, xoutOf_eq]
  rfl

theorem levelOf_eq (p : Profile) (r : Record) (v : Sample) : levelOf p r v = outgoingLevel p r v :=
  scaled_eq_scaleQ _ _

theorem toutOf_eq (p : Profile) (r : Record) (v : Sample) : toutOf p r v = outgoingPad p r (outgoingLevel p r v) := by
  rw [toutOf, scaled_eq_scaleQ, levelOf_eq]
  rfl

/-- Nothing in, nothing out: a chain of zero is zero (R38, R44). -/
theorem toutOf_zero (p : Profile) (r : Record) : toutOf p r 0 = 0 := by
  have key (m : Nat) : scaled 0 m = 0 := by
    rw [scaled, show (0 : Sample).toInt = 0 from rfl, Int.zero_mul]
    rfl
  rw [toutOf, levelOf, key, key]

/-! ## The estimate and the residual -/

/-- The list of a function's values at the places of a list. -/
theorem mapIdx_eq_map_range {α β : Type} (f : Nat → α → β) (d : α) {n : Nat} {as : List α} (h : as.length = n) :
    as.mapIdx f = (List.range n).map fun k => f k (as.getD k d) := by
  refine List.ext_getElem (by simp [h]) fun k h1 h2 => ?_
  have hk : k < as.length := by simpa using h1
  simp [List.getElem_mapIdx, hk]

theorem windowEstimate_eq {w : Window} (h : w.coefficients.length = 64) :
    windowEstimate x w = ((List.range 64).map fun k => tapOf w k * sampleUnder x w k).sum := by
  rw [windowEstimate, mapIdx_eq_map_range _ 0 h]
  rfl

/-- The residual (R43, R53, R54). -/
theorem residualAt_eq (h : ∀ w ∈ r.held, w.coefficients.length = 64) (y : Sample) :
    residualAt r x y = residualOf r.state x r.held y := by
  have hsum : (r.held.map fun w => ((List.range 64).map fun k => tapOf w k * sampleUnder x w k).sum).sum =
      estimateSum x r.held :=
    congrArg List.sum (List.map_congr_left fun w hw => (windowEstimate_eq (h w hw)).symm)
  unfold residualAt residualOf
  dsimp only
  rw [hsum, narrowed_eq_saturate, narrowed_eq_saturate]
  exact if_congr cancels_iff.symm rfl rfl

/-! ## The suppressor -/

theorem le_foldl_max_iff {α : Type} (f : α → Nat) (as : List α) (m n : Nat) :
    n ≤ as.foldl (fun m a => max m (f a)) m ↔ n ≤ m ∨ ∃ a ∈ as, n ≤ f a := by
  induction as generalizing m with
  | nil => simp
  | cons a as ih => rw [List.foldl_cons, ih, le_max_iff, List.exists_mem_cons_iff, or_assoc]

/-- A quantity is at most the largest of the last samples exactly when it is at most one of them (R129). -/
theorem le_largestMagnitude_iff (x : List Sample) (n : Nat) :
    n ≤ largestMagnitude (x.take 64) ↔ ∃ j < 64, n ≤ absolute (earlier x j) := by
  have key : (∃ v ∈ x.take 64, n ≤ magnitude v) → ∃ j < 64, n ≤ absolute (earlier x j) := by
    rintro ⟨v, hv, hn⟩
    obtain ⟨j, hj, rfl⟩ := List.mem_iff_getElem.1 hv
    have hlen : j < 64 ∧ j < x.length := by simpa using hj
    refine ⟨j, hlen.1, ?_⟩
    rw [List.getElem_take] at hn
    simpa [earlier, hlen.2, absolute, magnitude] using hn
  rw [largestMagnitude, le_foldl_max_iff]
  constructor
  · rintro (h0 | h)
    · exact ⟨0, by omega, by omega⟩
    · exact key h
  · rintro ⟨j, hj, hn⟩
    by_cases hx : j < x.length
    · refine .inr ⟨x[j], List.mem_take_iff_getElem.2 ⟨j, by omega, rfl⟩, ?_⟩
      simpa [earlier, hx, absolute, magnitude] using hn
    · refine .inl ?_
      simpa [earlier, List.getElem?_eq_none (not_lt.1 hx), absolute] using hn

theorem suppresses_iff (e : Sample) : suppresses p r x talk e = true ↔ SuppressedAt p r x talk e := by
  simp only [suppresses, Bool.and_eq_true, beq_iff_eq, decide_eq_true_eq, le_largestMagnitude_iff, and_assoc]
  rfl

theorem stepNoise_eq (n : BitVec 16) : stepNoise n = if n.getLsbD 0 then (n >>> 1) ^^^ 0xB400 else n >>> 1 := by
  have hbit : n &&& 1 = 1 ↔ n.getLsbD 0 = true := by
    constructor
    · intro h
      have := congrArg (BitVec.getLsbD · 0) h
      simpa using this
    · intro h
      refine BitVec.eq_of_getLsbD_eq fun i _ => ?_
      by_cases hi : i = 0
      · subst hi; simpa using h
      · simp [hi]
  unfold stepNoise
  exact if_congr hbit rfl rfl

/-- The suppressor output (R129, R131, R132). -/
theorem suppressedOr_eq {e : Sample} {noise : BitVec 16} (h : noise = noiseAfter p r (suppresses p r x talk e)) :
    suppressedOr p r x talk e noise = suppressorOutput p r (suppresses p r x talk e) e := by
  unfold suppressedOr suppressorOutput
  rw [narrowed_eq_saturate, ← h]
  exact if_congr (suppresses_iff e).symm rfl rfl

/-! ## A frame of a record, spelled out -/

/-- What a frame leaves of a record that is not LAPSED, and sends from its position, from the history and the residual
as the obligations spell them out (R36). -/
theorem frame_spelled {s : State} (hrun : s.running = true) (hdue : s.blockEndDue = false) (hs : s.TableSound)
    (hr : r ∈ s.records) (hl : r.state ≠ .lapsed) (hheld : ∀ w ∈ r.held, w.coefficients.length = 64)
    (tin xin : List Sample) {e : Sample} (hp : p = s.profileOf r) (hx : x = historyAt s r (timeslotOf tin r.position))
    (he : e = residualAt r x (timeslotOf xin r.position)) :
    ∃ t q w, exec (.frameSync tin xin) s = .next t ∧ t.recordOf r.identity = some q ∧
      q.noise = noiseAfter p r (suppresses p r x q.talk e) ∧
      timeslotOf t.nextTrunkOut r.position = toutOf p r (suppressorOutput p r (suppresses p r x q.talk e) e) ∧
      q.block = accumulate r w (timeslotOf tin r.position) (timeslotOf xin r.position) r.block ∧
      w.talk = q.talk ∧ w.residual = e ∧ w.xout = xoutOf p r (timeslotOf tin r.position) ∧
      w.suppressed = suppresses p r x q.talk e ∧
      w.level = levelOf p r (suppressorOutput p r (suppresses p r x q.talk e) e) := by
  obtain ⟨t, q, ht, hq, -, htalk, hnoise, hblock, -, hout⟩ := frame_of_live hrun hdue hs hr hl tin xin rfl
  rw [historyAt_eq, ← hp] at hx
  rw [residualAt_eq hheld] at he
  rw [← hp] at htalk hnoise hblock hout
  refine ⟨t, q, _, ht, hq, ?_, ?_, hblock, htalk.symm, ?_, (xoutOf_eq p r _).symm, ?_, ?_⟩
  · rw [hnoise, htalk, he, hx]; rfl
  · rw [hout, toutOf_eq, htalk, he, hx]; rfl
  · rw [he, hx]; rfl
  · rw [htalk, he, hx]; rfl
  · rw [levelOf_eq, htalk, he, hx]; rfl

/-! ## The block working values -/

theorem clipped_eq (v : Sample) : clipped v = (decide (v.toInt = -32768) || decide (v.toInt = 32767)) := by
  have key (w : Sample) : (v == w) = decide (v.toInt = w.toInt) := by
    rw [Bool.eq_iff_iff, beq_iff_eq, decide_eq_true_iff, BitVec.toInt_inj]
  exact congrArg₂ (· || ·) (key 0x8000) (key 0x7FFF)

theorem signChanges_eq (v w : Sample) : (if signChanges v w then 1 else 0) =
    if 0 ≤ v.toInt ↔ 0 ≤ w.toInt then 0 else 1 := by
  unfold signChanges
  by_cases hv : 0 ≤ v.toInt <;> by_cases hw : 0 ≤ w.toInt <;> simp [hv, hw, not_lt.2, not_le.1]

theorem square_eq (v : Sample) : square v = absolute v ^ 2 := (sq _).symm

end Sys2Proof.Machine

open Sys2Proof Sys2Proof.Machine

/-- Settles O7. -/
theorem frameIncomingChain : Obligations.FrameIncomingChain := by
  intro s tin xin r hrun hdue hs hr hl p padIn gainIn a xout
  have hx : xout = incomingChain (s.profileOf r) r (sampleAt tin r.position) := xoutOf_eq p r _
  obtain ⟨t, q, ht, hq, hhist, -, -, -, hout, -⟩ := frame_of_live hrun hdue hs hr hl tin xin rfl
  exact ⟨t, ht, hout.trans hx.symm, q, hq, hx ▸ hhist⟩

/-- Settles O9: the outgoing chain of the suppressor output, whose three cases are no suppression, silence and comfort
fill. -/
theorem frameTrunkOut : Obligations.FrameTrunkOut := by
  intro s tin xin r hrun hdue hs hr hl hheld p x e
  obtain ⟨t, q, -, ht, hq, hnoise, hout, -⟩ := frame_spelled hrun hdue hs hr hl hheld tin xin (p := p) (x := x) (e := e)
    rfl rfl rfl
  have hiff := suppresses_iff (p := p) (r := r) (x := x) (talk := q.talk) e
  refine ⟨t, ht, q, hq, fun hn => ?_, fun hsup => ⟨fun hfill => ?_, fun hfill => ?_⟩⟩
  · rw [Bool.eq_false_iff.2 fun h => hn (hiff.1 h)] at hnoise hout
    exact ⟨hnoise, hout⟩
  · rw [hiff.2 hsup] at hnoise hout
    rw [noiseAfter, hfill] at hnoise
    rw [suppressorOutput, hfill] at hout
    exact ⟨hnoise, hout.trans (toutOf_zero p r)⟩
  · rw [hiff.2 hsup] at hnoise hout
    rw [suppressorOutput, hfill, ← hnoise] at hout
    rw [noiseAfter, hfill] at hnoise
    refine ⟨hnoise.trans (stepNoise_eq _), hout.trans ?_⟩
    rw [narrowed_eq_saturate]
    rfl

/-- Settles O11: stage 8 field by field. -/
theorem frameBlockAccumulation : Obligations.FrameBlockAccumulation := by
  intro s tin xin r hrun hdue hs hr hl hheld p ti xi x e b
  obtain ⟨t, q, w, ht, hq, hnoise, -, hblock, htalk, hres, hxout, hsup, hlevel⟩ :=
    frame_spelled hrun hdue hs hr hl hheld tin xin (p := p) (x := x) (e := e) rfl rfl rfl
  have hsup' : suppresses p r x q.talk e = decide (SuppressedAt p r x q.talk e) := by
    rw [Bool.eq_iff_iff, decide_eq_true_iff, suppresses_iff]
  have hsupervised : (cancels r.state && !r.freeze) = true ↔
      (r.state = .settling ∨ r.state = .converged) ∧ r.freeze = false := by
    rw [Bool.and_eq_true, cancels_iff, Bool.not_eq_true']
  refine ⟨t, ht, q, hq, ?_⟩
  rw [suppressedOr_eq hnoise, hblock, accumulate, htalk, hres, hxout, hsup, hlevel, hsup']
  simp only [clipped_eq, signChanges_eq, square_eq, hsupervised, ← Bool.or_assoc]
  rfl
end

section
/-! SUPPORT. What a block end measures in a record, and what a partial block leaves of it (O15, O16). -/

namespace Sys2Proof.Machine

variable {s t : State} {p : Profile} {x y r : Record}

/-- A record after a block end, granted windows before its own block-end work and after it (R34, R124). -/
theorem recordOf_endBlock (hrun : s.running = true) (hdue : s.blockEndDue = true) (hs : s.TableSound)
    (hr : r ∈ s.records) :
    ∃ t j k, exec .blockEnd s = .next t ∧
      t.recordOf r.identity = some (((r.granted j).blockEnded (s.profileOf r)).granted k) := by
  obtain ⟨u, j, -, -, -, hwork, hafter⟩ := endBlock_around hs hr
  have hexec := exec_blockEnd hrun hdue
  generalize allPositions.foldl State.positionBlockEnd s = v at hexec hafter
  obtain ⟨k, hk⟩ := hafter.granted
  rw [hwork.identity] at hk
  exact ⟨_, j, k, hexec, hk⟩

/-! ## Clip detection and the partial block -/

/-- Clip detection (R46). -/
theorem clipDetected_eq (x : Record) : x.clipDetected = { x with
    alarms := if x.block.clip then x.alarms ||| 0x4 else x.alarms
    tallies := { x.tallies with
      clipBlocks := if x.block.clip then min 65535 (x.tallies.clipBlocks + 1) else x.tallies.clipBlocks } } := by
  unfold Record.clipDetected
  cases hc : x.block.clip <;> rfl

theorem closeBlock_of_partial (h : x.block.live ≠ 64) : closeBlock x =
    { x with block := { previousTin := x.lastTin, previousXin := x.lastXin } } := by
  have hw : isWhole x = false := by simpa [isWhole] using h
  rw [closeBlock, hw]
  rfl

theorem closeBlock_of_whole (h : x.block.live = 64) : closeBlock x =
    { x with
      lastTin := x.block.previousTin, lastXin := x.block.previousXin
      block := { previousTin := x.block.previousTin, previousXin := x.block.previousXin } } := by
  have hw : isWhole x = true := by simpa [isWhole] using h
  rw [closeBlock, hw]
  rfl

/-- A record at the end of a partial block (R46, R47). -/
theorem blockEnded_of_partial_eq (h : x.state ≠ .lapsed) (hw : x.block.live ≠ 64) : x.blockEnded p =
    { x with
      alarms := if x.block.clip then x.alarms ||| 0x4 else x.alarms
      tallies := { x.tallies with
        clipBlocks := if x.block.clip then min 65535 (x.tallies.clipBlocks + 1) else x.tallies.clipBlocks }
      block := { previousTin := x.lastTin, previousXin := x.lastXin } } := by
  rw [blockEnded_of_partial h hw, clipDetected_eq]
  exact closeBlock_of_partial hw

/-! ## The tests of a whole block -/

/-- The changes to a record that the tests of a whole block can make once it has been measured (R47). -/
def Record.TestChange (x y : Record) : Prop :=
  y = { x with
    state := y.state, resume := y.resume, held := y.held, unplaced := y.unplaced, passCount := y.passCount
    failCount := y.failCount, toneCount := y.toneCount, quietCount := y.quietCount, idleCount := y.idleCount
    alarms := y.alarms
    tallies := { x.tallies with
      convergedBlocks := y.tallies.convergedBlocks, pathChanges := y.tallies.pathChanges
      divergences := y.tallies.divergences }
    block := { x.block with idleRose := y.block.idleRose } }

theorem testChange_refl (x : Record) : x.TestChange x := rfl

theorem testChange_trans (a b c : Record) (h : a.TestChange b) (k : b.TestChange c) : a.TestChange c := by
  unfold Record.TestChange at *
  rw [k, h]

theorem testChange_echoTested (x : Record) : x.TestChange x.echoTested := by
  unfold Record.echoTested
  split <;> rfl

theorem testChange_handled (x : Record) (c : BlockClass) : x.TestChange (x.handled c) := by
  cases c with
  | divergent => rfl
  | passing =>
    unfold Record.handled
    dsimp only
    split <;> rfl
  | failing =>
    unfold Record.handled
    dsimp only
    split <;> rfl
  | marginal => rfl

theorem testChange_judged (p : Profile) (x : Record) : (x.measured p).TestChange (x.judged p) := by
  have hcount (y : Record) : y.TestChange (countConverged y) := by
    unfold countConverged
    split <;> rfl
  refine testChange_trans _ _ _ ?_ (hcount _)
  unfold Record.supervised
  split
  · exact testChange_trans _ _ _ (testChange_echoTested _) (testChange_handled _ _)
  · exact testChange_refl _

theorem testChange_toneWorked (p : Profile) (x : Record) : x.TestChange (x.toneWorked p) := by
  have hrevise : x.TestChange (reviseToneOrQuiet p x) := by
    unfold reviseToneOrQuiet
    split <;> rfl
  unfold Record.toneWorked
  dsimp only
  split
  · exact testChange_trans _ _ (returnRecord _) hrevise rfl
  · split
    · exact testChange_trans _ _ (bypassRecord _) hrevise rfl
    · exact hrevise

/-- A record at the end of its whole block is its measurements, the tests' changes, and the block closed (R45, R47). -/
theorem blockEnded_of_whole_measured (h : x.state ≠ .lapsed) (hw : x.block.live = 64) :
    ∃ y, x.blockEnded p = closeBlock y ∧ (x.measured p).TestChange y := by
  have htoned : (x.measured p).TestChange (x.toned p) :=
    testChange_trans _ _ _ (testChange_judged p x) (testChange_toneWorked p _)
  have hidle : (x.measured p).TestChange (reviseIdle p (x.toned p)) := by
    refine testChange_trans _ _ _ htoned ?_
    rw [reviseIdle_eq]
    rfl
  refine ⟨_, blockEnded_of_whole h hw, ?_⟩
  split
  · exact testChange_trans _ _ (lapseRecord (reviseIdle p (x.toned p))).emptied hidle rfl
  · exact hidle

/-! ## The measurements -/

theorem levelControlled_iff (h : x.state ≠ .lapsed) : levelControlled x.state = true ↔ x.state ≠ .bypass := by
  cases hx : x.state <;> simp_all [levelControlled]

theorem updatesGainIn_iff (h : x.state ≠ .lapsed) : updatesGainIn p x = true ↔
    x.state ≠ .bypass ∧ p.alcIn = true ∧ 32 ≤ x.block.farFrames + x.block.doubleFrames := by
  rw [updatesGainIn, Bool.and_eq_true, Bool.and_eq_true, levelControlled_iff h, decide_eq_true_iff, and_assoc]

theorem updatesGainOut_iff (h : x.state ≠ .lapsed) : updatesGainOut p x = true ↔
    x.state ≠ .bypass ∧ p.alcOut = true ∧ 32 ≤ x.block.nearFrames + x.block.doubleFrames := by
  rw [updatesGainOut, Bool.and_eq_true, Bool.and_eq_true, levelControlled_iff h, decide_eq_true_iff, and_assoc]

/-- The background level's revision, which does not fall below 0 (R135). -/
theorem reviseBackground_background (x : Record) : ((reviseBackground x).background : Int) =
    if x.block.idleFrames = 64 then
      max 0 ((x.background : Int) + Int.tdiv (((min 8191 (x.block.sumXin / 64) : Nat) : Int) - x.background) 8)
    else x.background := by
  unfold reviseBackground
  split
  · rw [max_comm, ← Int.toNat_eq_max]
    rfl
  · rfl

/-- What is measured in a record, clip detection included (R46, R76, R134, R135, R140). -/
theorem measured_spelled (p : Profile) (x : Record) : x.measured p =
    { x with
      alarms := if x.block.clip then x.alarms ||| 0x4 else x.alarms
      background := (reviseBackground x).background
      gainIn := if updatesGainIn p x then stepGain p (x.block.levelIn / 64) x.gainIn else x.gainIn
      gainOut := if updatesGainOut p x then stepGain p (x.block.levelOut / 64) x.gainOut else x.gainOut
      tallies := { x.tallies with
        doubleTalkBlocks :=
          if 1 ≤ x.block.doubleFrames then countUp x.tallies.doubleTalkBlocks else x.tallies.doubleTalkBlocks
        suppressedBlocks :=
          if x.block.suppressed then countUp x.tallies.suppressedBlocks else x.tallies.suppressedBlocks
        clipBlocks := if x.block.clip then min 65535 (x.tallies.clipBlocks + 1) else x.tallies.clipBlocks } } := by
  rw [Record.measured, measureBlock_eq, clipDetected_eq]
  unfold reviseBackground
  by_cases h : x.block.idleFrames = 64
  · simp only [h, if_true]
    rfl
  · simp only [h, if_false]
    rfl

end Sys2Proof.Machine

open Sys2Proof Sys2Proof.Machine

/-- Settles O15. -/
theorem blockEndPartial : Obligations.BlockEndPartial := by
  intro s r hrun hdue hs hr hl hw
  obtain ⟨t, j, k, ht, hk⟩ := recordOf_endBlock hrun hdue hs hr
  refine ⟨t, ht, j + k, hk.trans ?_⟩
  rw [blockEnded_of_partial_eq (x := r.granted j) hl hw, ← granted_granted]
  rfl

/-- Settles O16: the tests that follow the measurements do not touch what was measured. -/
theorem blockEndMeasures : Obligations.BlockEndMeasures := by
  intro s r hrun hdue hs hr hl hw p b moved tally
  obtain ⟨t, j, k, ht, hk⟩ := recordOf_endBlock hrun hdue hs hr
  obtain ⟨y, hy, hchange⟩ := blockEnded_of_whole_measured (p := p) (x := r.granted j) hl hw
  rw [show s.profileOf r = p from rfl, hy, closeBlock_of_whole (by rw [hchange, measured_spelled]; exact hw)] at hk
  rw [measured_spelled] at hchange
  refine ⟨t, ht, _, hk, ?_⟩
  rw [hchange]
  refine ⟨?_, ?_, reviseBackground_background (r.granted j), ?_, rfl, rfl, rfl, rfl, rfl, rfl, rfl, rfl, rfl, rfl, rfl, rfl,
    rfl, rfl, rfl, rfl⟩
  · exact if_congr (updatesGainIn_iff (x := r.granted j) hl) rfl rfl
  · exact if_congr (updatesGainOut_iff (x := r.granted j) hl) rfl rfl
  · exact if_congr (decide_eq_true_iff (p := 1 ≤ b.doubleFrames)).symm rfl rfl
end

section
/-! SUPPORT. The search unit through a block end: who keeps a search or a request, and who gets one (O14). -/

namespace Sys2Proof.Machine

variable {s t u : State} {id j : Identity} {p : Profile} {x r q : Record}

/-! ## A search kept -/

/-- A record that stands in a slot stands there with its values, one that waits in the priority lane waits there or
runs, and one that waits waits or runs (R97 to R99). -/
structure SearchKept (id : Identity) (s t : State) : Prop where
  slots : ∀ sl ∈ s.slots, sl.identity = id → sl ∈ t.slots
  priority : id ∈ s.priorityLane → id ∈ t.priorityLane ∨ ∃ sl ∈ t.slots, sl.identity = id
  searching : id ∈ s.searching → id ∈ t.searching

theorem SearchKept.of_eq (hp : t.priorityLane = s.priorityLane) (ho : t.ordinaryLane = s.ordinaryLane)
    (hsl : t.slots = s.slots) : SearchKept id s t :=
  ⟨fun _ h _ => hsl ▸ h, fun h => .inl (hp ▸ h), fun h => searching_congr hp ho hsl ▸ h⟩

theorem SearchKept.refl (id : Identity) (s : State) : SearchKept id s s := .of_eq rfl rfl rfl

theorem SearchKept.trans (h : SearchKept id s t) (k : SearchKept id t u) : SearchKept id s u where
  slots sl hsl hi := k.slots sl (h.slots sl hsl hi) hi
  priority hp := by
    rcases h.priority hp with hp | ⟨sl, hsl, hi⟩
    · exact k.priority hp
    · exact .inr ⟨sl, k.slots sl hsl hi, hi⟩
  searching hse := k.searching (h.searching hse)

theorem SearchKept.of_poolStep (h : PoolStep s t) : SearchKept id s t := .of_eq h.priorityLane h.ordinaryLane h.slots

/-- The arbiter takes records from the lanes to the slots only (R97). -/
theorem SearchKept.fillSlots (n : Nat) (s : State) : SearchKept id s (s.fillSlots n) := by
  induction n generalizing s with
  | zero => exact .refl id s
  | succ n ih =>
    unfold State.fillSlots
    split
    · rename_i i rest hp
      refine SearchKept.trans ⟨fun sl h _ => List.mem_append_left _ h, fun h => ?_, fun h => ?_⟩ (ih _)
      · rcases List.mem_cons.1 (hp ▸ h) with rfl | h
        · exact .inr ⟨freshSlot id, by simp, rfl⟩
        · exact .inl h
      · simpa [State.searching, hp] using h
    · rename_i i rest hp ho
      have hfirst : SearchKept id s { s with ordinaryLane := rest, slots := s.slots ++ [freshSlot i] } :=
        ⟨fun sl h _ => List.mem_append_left _ h, .inl, fun h => by simpa [State.searching, hp, ho] using h⟩
      exact hfirst.trans (ih _)
    · exact .refl id s

theorem SearchKept.arbitrate (s : State) : SearchKept id s s.arbitrate := .fillSlots _ s

/-- A request of any record leaves no search worse off (R98). -/
theorem SearchKept.request (s : State) (l : Lane) (j : Identity) : SearchKept id s (s.request l j) := by
  have hmore := fun h : id ∈ s.searching => (mem_searching_request (l := l) (id := j)).2 (.inl h)
  rcases request_cases s l j with ⟨-, -, h⟩ | ⟨-, -, h⟩ | ⟨-, -, h⟩ | ⟨-, h⟩ <;> rw [h] at hmore ⊢
  · exact { SearchKept.arbitrate (id := id) { s with ordinaryLane := s.ordinaryLane ++ [j] } with searching := hmore }
  · have k := SearchKept.arbitrate (id := id) { s with priorityLane := s.priorityLane ++ [j] }
    exact ⟨k.slots, fun hp => k.priority (List.mem_append_left _ hp), hmore⟩
  · have k := SearchKept.arbitrate (id := id) { s with
      ordinaryLane := s.ordinaryLane.filter (· != j), priorityLane := s.priorityLane ++ [j] }
    exact ⟨k.slots, fun hp => k.priority (List.mem_append_left _ hp), hmore⟩
  · exact .refl id s

/-- Another record's search, dropped (R99, R111). -/
theorem SearchKept.cancelSearch (s : State) (hne : j ≠ id) : SearchKept id s (s.cancelSearch j) := by
  have k := SearchKept.arbitrate (id := id) ((s.leaveLanes j).freeSlot j)
  refine ⟨fun sl hsl hi => k.slots sl (List.mem_filter.2 ⟨hsl, ?_⟩) hi, fun hp => k.priority (List.mem_filter.2 ⟨hp, ?_⟩),
    fun h => mem_searching_cancelSearch.2 ⟨h, hne.symm⟩⟩
  · simpa [hi] using hne.symm
  · simpa using hne.symm

theorem SearchKept.supervisorRequest (s : State) (j : Identity) : SearchKept id s (s.supervisorRequest j) := by
  unfold State.supervisorRequest
  split
  · split
    · exact .request s _ _
    · exact .refl id s
  · exact .refl id s

/-! ## The parts of the work -/

/-- Clip detection and the measurements of a whole block (R46, R76, R134, R135, R140). -/
def State.measuredBy (s : State) (x : Record) : State :=
  (s.detectClip x).update x.identity (measureBlock ((s.detectClip x).profileOf x))

/-- The same with convergence supervision, before the tone, quiet and idle tests (R159). -/
def State.judgedBy (s : State) (x : Record) : State :=
  ((s.measuredBy x).supervise x.identity).update x.identity countConverged

theorem recordBlockEnd_of_whole (hl : x.state ≠ .lapsed) (hw : x.block.live = 64) : s.recordBlockEnd x =
    (((s.judgedBy x).toneWork x.identity).idleWork x.identity).update x.identity closeBlock := by
  have hwhole : isWhole x = true := by simp [isWhole, hw]
  unfold State.recordBlockEnd
  rw [if_neg hl]
  dsimp only
  rw [if_pos hwhole]
  rfl

theorem recordBlockEnd_of_not_whole (h : ¬x.Whole) : s.recordBlockEnd x = s ∨
    s.recordBlockEnd x = (s.detectClip x).update x.identity closeBlock := by
  unfold State.recordBlockEnd
  split
  · exact .inl rfl
  · rename_i hl
    have hpart : ¬isWhole x = true := by simpa [isWhole] using fun hw => h ⟨hl, hw⟩
    dsimp only
    rw [if_neg hpart]
    exact .inr rfl

theorem measuredBy_work (hs : s.TableSound) (h : s.recordOf x.identity = some x) :
    EndWork x (x.measured (s.profileOf x)) s (s.measuredBy x) := by
  have h1 := detectClip_work hs h
  have hp : (s.detectClip x).profileOf x = s.profileOf x := by rw [State.profileOf, h1.settings]; rfl
  have k2 := endWork_update (keysKept_measureBlock (s.profileOf x)) h1.table h1.named (by rw [measureBlock_eq])
    (by rw [measureBlock_state])
  rw [h1.identity] at k2
  rw [State.measuredBy, hp]
  exact h1.trans k2

theorem judgedBy_work (hs : s.TableSound) (h : s.recordOf x.identity = some x) :
    EndWork x (x.judged (s.profileOf x)) s (s.judgedBy x) := by
  have h2 := measuredBy_work hs h
  have k3 := supervise_work h2.table h2.named
  rw [h2.identity, h2.profileOf] at k3
  have h3 := h2.trans k3
  have k4 := endWork_update keysKept_countConverged h3.table h3.named (countConverged_alarms _)
    (by rw [countConverged_state])
  rw [h3.identity] at k4
  exact h3.trans k4

theorem toneWork_judgedBy_work (hs : s.TableSound) (h : s.recordOf x.identity = some x) :
    EndWork x (x.toned (s.profileOf x)) s ((s.judgedBy x).toneWork x.identity) := by
  have h3 := judgedBy_work hs h
  have k4 := toneWork_work h3.table h3.named
  rw [h3.identity, h3.profileOf] at k4
  exact h3.trans k4

/-- A tone count that enters BYPASS is one of a cancelling record (R152, R153). -/
theorem entersUnder_of_bypassDue (h : bypassDue (reviseToneOrQuiet p (x.judged p)) = true) : x.EntersUnder p := by
  by_cases hc : x.state = .settling ∨ x.state = .converged
  · rw [revise_judged_of_cancels hc] at h
    exact (bypassDue_toneCounted hc).1 h
  · rw [bypassDue, Bool.and_eq_true, reviseToneOrQuiet_state, judged_state, stateLeft_of_not_cancels hc] at h
    exact absurd (cancels_iff.1 h.1) hc

/-! ## A search kept through the work -/

theorem detectClip_lanes (s : State) (x : Record) : (s.detectClip x).priorityLane = s.priorityLane ∧
    (s.detectClip x).ordinaryLane = s.ordinaryLane ∧ (s.detectClip x).slots = s.slots := by
  unfold State.detectClip
  split
  · have k := raiseAlarm_poolStep (s.update x.identity countClip) x.identity .inputClip
    exact ⟨k.priorityLane, k.ordinaryLane, k.slots⟩
  · exact ⟨rfl, rfl, rfl⟩

theorem detectClip_searchKept (s : State) (x : Record) : SearchKept id s (s.detectClip x) :=
  .of_eq (detectClip_lanes s x).1 (detectClip_lanes s x).2.1 (detectClip_lanes s x).2.2

theorem testEcho_poolStep (s : State) (x : Record) : PoolStep s (s.testEcho x) := by
  unfold State.testEcho
  split
  · exact raiseAlarm_poolStep _ _ _
  · exact .refl s

theorem supervise_searchKept (s : State) (j : Identity) : SearchKept id s (s.supervise j) := by
  have plain (u : State) (f : Record → Record) : SearchKept id u (u.update j f) := .of_eq rfl rfl rfl
  cases h : s.recordOf j with
  | none => rw [State.supervise, h]; exact .refl id s
  | some q =>
    obtain ⟨-, rfl⟩ := recordOf_some h
    rw [supervise_of_some h]
    split
    · refine (SearchKept.of_poolStep (testEcho_poolStep s q)).trans ?_
      have hof := recordOf_testEcho h
      cases classify (s.profileOf q) q.block with
      | divergent =>
        exact ((plain _ divergeRecord).trans (.of_poolStep (raiseAlarm_poolStep _ _ _))).trans (.supervisorRequest _ _)
      | passing =>
        rw [handleClass_passing hof]
        split <;> exact plain _ _
      | failing =>
        rw [handleClass_failing hof]
        split
        · exact (plain _ _).trans (.supervisorRequest _ _)
        · exact plain _ _
      | marginal => exact plain _ _
    · exact .refl id s

theorem judgedBy_searchKept (s : State) (x : Record) : SearchKept id s (s.judgedBy x) :=
  ((detectClip_searchKept s x).trans (.of_eq (t := s.measuredBy x) rfl rfl rfl)).trans
    ((supervise_searchKept _ _).trans (.of_eq rfl rfl rfl))

theorem toneWork_searchKept (h : EndWork x (x.judged (s.profileOf x)) s u)
    (hk : x.identity ≠ id ∨ ¬x.EntersUnder (s.profileOf x)) : SearchKept id u (u.toneWork x.identity) := by
  have plain (f : Record → Record) : SearchKept id u (u.update x.identity f) := .of_eq rfl rfl rfl
  by_cases hst : (x.judged (s.profileOf x)).state = .bypass
  · rw [toneWork_of_bypass h.own hst]
    dsimp only
    split
    · split
      · exact (plain _).trans (.request _ _ _)
      · exact plain _
    · exact plain _
  · rw [toneWork_of_not_bypass h.own hst, h.profileOf]
    split
    · rename_i hdue
      exact (plain _).trans (.cancelSearch _ (hk.resolve_right (not_not.2 (entersUnder_of_bypassDue hdue))))
    · exact plain _

theorem idleWork_searchKept (h : u.recordOf x.identity = some q)
    (hk : x.identity ≠ id ∨ ¬lapseDue (u.profileOf q) (reviseIdle (u.profileOf q) q) = true) :
    SearchKept id u (u.idleWork x.identity) := by
  have plain (f : Record → Record) : SearchKept id u (u.update x.identity f) := .of_eq rfl rfl rfl
  rw [idleWork_of_some h]
  split
  · rename_i hdue
    refine (((plain _).trans (.of_poolStep (releaseAll_poolStep _ _))).trans
      (.cancelSearch _ (hk.resolve_right (not_not.2 hdue)))).trans (.of_eq rfl rfl rfl)
  · exact plain _

/-- The work of a record keeps every search but, at its entry to BYPASS and its lapse, its own (R153, R157). -/
theorem recordBlockEnd_searchKept (hs : s.TableSound) (h : s.recordOf x.identity = some x)
    (hk : x.identity ≠ id ∨ ¬x.Whole ∨ ¬x.EntersUnder (s.profileOf x) ∧ ¬x.LapsesUnder (s.profileOf x)) :
    SearchKept id s (s.recordBlockEnd x) := by
  by_cases hwhole : x.Whole
  · obtain ⟨hl, hw⟩ := hwhole
    have hk : x.identity ≠ id ∨ ¬x.EntersUnder (s.profileOf x) ∧ ¬x.LapsesUnder (s.profileOf x) :=
      hk.imp_right fun hk => hk.resolve_left (not_not.2 ⟨hl, hw⟩)
    have h4 := toneWork_judgedBy_work hs h
    rw [recordBlockEnd_of_whole hl hw]
    refine (((judgedBy_searchKept s x).trans (toneWork_searchKept (judgedBy_work hs h) (hk.imp_right And.left))).trans
      (idleWork_searchKept h4.own (hk.imp_right fun hk hdue => hk.2 ?_))).trans (.of_eq rfl rfl rfl)
    rw [h4.profileOf] at hdue
    exact (lapseDue_toned hl).1 hdue
  · rcases recordBlockEnd_of_not_whole (s := s) hwhole with he | he <;> rw [he]
    · exact .refl id s
    · exact (detectClip_searchKept s x).trans (.of_eq rfl rfl rfl)

/-- The work at some positions keeps a record's search, unless its own is among it and it enters BYPASS or lapses. -/
theorem foldl_positionBlockEnd_searchKept {ps : List Position} (hnd : ps.Nodup) (hs : s.TableSound)
    (h : s.recordOf x.identity = some x)
    (hk : x.position ∈ ps → ¬x.Whole ∨ ¬x.EntersUnder (s.profileOf x) ∧ ¬x.LapsesUnder (s.profileOf x)) :
    SearchKept x.identity s (ps.foldl State.positionBlockEnd s) := by
  induction ps generalizing s x with
  | nil => exact .refl _ s
  | cons p ps ih =>
    obtain ⟨hp, hnd⟩ := List.nodup_cons.1 hnd
    rw [List.foldl_cons]
    cases hat : s.recordAt p with
    | none =>
      rw [positionBlockEnd_of_none hat]
      exact ih hnd hs h fun hmem => hk (List.mem_cons_of_mem _ hmem)
    | some w =>
      obtain ⟨hw, hwp⟩ := recordAt_some hat
      have hwof := (recordOf_eq_some_iff hs).2 ⟨hw, rfl⟩
      have hwork := recordBlockEnd_work hs hwof
      rw [positionBlockEnd_of_some hat]
      by_cases hne : w.identity = x.identity
      · have hwx : w = x := eq_of_identity_eq hs hw (recordOf_some h).1 hne
        subst hwx
        have hrest := ih hnd hwork.table hwork.named fun hmem => absurd (hwp ▸ hwork.position ▸ hmem) hp
        rw [hwork.identity] at hrest
        exact (recordBlockEnd_searchKept hs h (.inr (hk (hwp ▸ List.mem_cons_self)))).trans hrest
      · obtain ⟨k, hk'⟩ := hwork.others _ (Ne.symm hne) x h
        have hpx : (s.recordBlockEnd w).profileOf (x.granted k) = s.profileOf x := by
          rw [State.profileOf, hwork.settings]; rfl
        refine (recordBlockEnd_searchKept hs hwof (.inl hne)).trans (ih (x := x.granted k) hnd hwork.table hk' ?_)
        rw [hpx]
        exact fun hmem => hk (List.mem_cons_of_mem _ hmem)

/-! ## A search begun -/

/-- Whether a profile's searches are off (R87). -/
abbrev Profile.searchOff (p : Profile) : Prop := (p.searchOn && decide (1 ≤ p.windowLimit)) = false

theorem searchOff_of {p : Profile} (h : p.searchOn = false ∨ p.windowLimit = 0) : p.searchOff := by
  rcases h with h | h <;> simp [Profile.searchOff, h]

/-- With the searches of its profile off, the supervisor makes no request for a record (R87). -/
theorem supervisorRequest_of_off (h : s.recordOf id = some r) (hoff : (s.profileOf r).searchOff) :
    s.supervisorRequest id = s := by
  simp only [State.supervisorRequest, h, hoff, Bool.false_eq_true, if_false]

/-- Of the classes of block, a divergence and a path change begin a search (R83, R85, R87). -/
theorem handleClass_searching (h : s.recordOf id = some q) (c : BlockClass)
    (hno : (s.profileOf q).searchOff ∨ c ≠ .divergent ∧ (c = .failing → pathChangeDue (failBlock q) = false))
    (hmem : id ∈ (s.handleClass id c).searching) : id ∈ s.searching := by
  cases c with
  | divergent =>
    have hoff := hno.resolve_right fun hno => hno.1 rfl
    have hP := raiseAlarm_poolStep (s.update id divergeRecord) id .diverged
    have hown := recordOf_raiseAlarm_self (recordOf_update_self divergeRecord_identity h) .diverged
    have hoff' : (((s.update id divergeRecord).raiseAlarm id .diverged).profileOf
        ((divergeRecord q).withAlarm .diverged)).searchOff := by
      rw [sameApart_profileOf hP.apart]
      exact hoff
    change id ∈ (State.supervisorRequest _ _).searching at hmem
    rwa [supervisorRequest_of_off hown hoff', searching_congr hP.priorityLane hP.ordinaryLane hP.slots] at hmem
  | passing =>
    rw [handleClass_passing h] at hmem
    split at hmem <;> exact hmem
  | failing =>
    rw [handleClass_failing h] at hmem
    split at hmem
    · rename_i hdue
      have hoff := hno.resolve_right fun hno => by rw [hno.2 rfl] at hdue; cases hdue
      rwa [supervisorRequest_of_off (recordOf_update_self (f := fun y => changePathRecord (failBlock y)) (fun _ => rfl) h)
        hoff] at hmem
    · exact hmem
  | marginal => exact hmem

/-- Convergence supervision begins a search by a divergence or a path change alone (R83, R85, R87). -/
theorem supervise_searching (h : s.recordOf id = some q)
    (hno : (s.profileOf q).searchOff ∨ (qualifies q = true → classify (s.profileOf q) q.block ≠ .divergent ∧
      (classify (s.profileOf q) q.block = .failing → pathChangeDue (failBlock q) = false)))
    (hmem : id ∈ (s.supervise id).searching) : id ∈ s.searching := by
  obtain ⟨-, rfl⟩ := recordOf_some h
  rw [supervise_of_some h] at hmem
  split at hmem
  · rename_i hq
    have hP := testEcho_poolStep s q
    have hprof : (s.testEcho q).profileOf q.echoTested = s.profileOf q := by
      rw [sameApart_profileOf hP.apart, echoTested_eq]
      rfl
    have hdue : pathChangeDue (failBlock q.echoTested) = pathChangeDue (failBlock q) := by
      rw [echoTested_eq]
      rfl
    rw [← searching_congr hP.priorityLane hP.ordinaryLane hP.slots]
    refine handleClass_searching (recordOf_testEcho h) _ ?_ hmem
    rw [hprof, hdue]
    exact hno.imp_right fun hno => hno hq
  · exact hmem

/-- The tone and quiet tests begin a search by a return to SETTLING alone (R154). -/
theorem toneWork_searching (h : s.recordOf id = some q)
    (hno : q.state = .bypass → returnDue (reviseToneOrQuiet (s.profileOf q) q) = true →
      returnRequests (s.profileOf q) (reviseToneOrQuiet (s.profileOf q) q) = false)
    (hmem : id ∈ (s.toneWork id).searching) : id ∈ s.searching := by
  by_cases hst : q.state = .bypass
  · rw [toneWork_of_bypass h hst] at hmem
    dsimp only at hmem
    split at hmem
    · rename_i hdue
      rw [hno hst hdue, if_neg Bool.false_ne_true] at hmem
      exact hmem
    · exact hmem
  · rw [toneWork_of_not_bypass h hst] at hmem
    split at hmem
    · exact (mem_searching_cancelSearch.1 hmem).1
    · exact hmem

theorem idleWork_searching_subset (h : s.recordOf id = some q) (hmem : j ∈ (s.idleWork id).searching) :
    j ∈ s.searching := by
  rw [idleWork_of_some h] at hmem
  split at hmem
  · have hP := releaseAll_poolStep (s.update id fun x => lapseRecord (reviseIdle (s.profileOf q) x)) id
    have := (mem_searching_cancelSearch.1 (show j ∈ (State.cancelSearch _ _).searching from hmem)).1
    rwa [searching_congr hP.priorityLane hP.ordinaryLane hP.slots] at this
  · exact hmem

/-- The work of a record begins no search of it but by a divergence, a path change or a return to SETTLING (R87,
R154). -/
theorem recordBlockEnd_searching_subset (hs : s.TableSound) (h : s.recordOf x.identity = some x) (hp : p = s.profileOf x)
    (hno : ¬x.Whole ∨ ¬(x.Qualifying ∧ x.DivergentUnder p) ∧ ¬x.PathChanges p ∧
      (x.ReturnsUnder p → x.resume = some .converged) ∨ p.searchOn = false ∨ p.windowLimit = 0)
    (hmem : x.identity ∈ (s.recordBlockEnd x).searching) : x.identity ∈ s.searching := by
  obtain ⟨hpl, hol, hsl⟩ := detectClip_lanes s x
  have hclip := searching_congr hpl hol hsl
  by_cases hwhole : x.Whole
  · have hno := hno.resolve_left (not_not.2 hwhole)
    obtain ⟨hl, hw⟩ := hwhole
    have h2 := measuredBy_work hs h
    have h3 := judgedBy_work hs h
    have h4 := toneWork_judgedBy_work hs h
    rw [recordBlockEnd_of_whole hl hw] at hmem
    have hmem := idleWork_searching_subset (j := x.identity) h4.own hmem
    have hmem := toneWork_searching h3.own (fun hst hdue => ?_) hmem
    · have hmem := supervise_searching (s := s.measuredBy x) h2.own ?_ hmem
      · exact hclip ▸ hmem
      · rw [h2.profileOf, ← hp, measured_block, measured_qualifies]
        rcases hno with ⟨hdiv, hpath, -⟩ | hoff
        · refine .inr fun hq => ⟨fun hc => hdiv ⟨qualifies_iff.1 hq, classify_divergent.1 hc⟩, fun hc => ?_⟩
          rw [Bool.eq_false_iff]
          intro hdue
          obtain ⟨hst, hcount⟩ := (pathChangeDue_failBlock _).1 hdue
          rw [measured_state] at hst
          rw [measured_failCount] at hcount
          exact hpath ⟨qualifies_iff.1 hq, (classify_failing.1 hc).1, (classify_failing.1 hc).2, hst, hcount⟩
        · exact .inl (searchOff_of hoff)
    · rw [h3.profileOf, ← hp] at hdue ⊢
      have hb : x.state = .bypass := by
        by_contra hb
        by_cases hc : x.state = .settling ∨ x.state = .converged
        · rcases judged_cancels (p := s.profileOf x) hc with he | he <;> rw [he] at hst <;> cases hst
        · rw [judged_of_not_cancels hc, measured_state] at hst
          exact hb hst
      rw [revise_judged_of_bypass hb] at hdue ⊢
      rcases hno with ⟨-, -, hback⟩ | hoff
      · have hres : (x.quietCounted p).resume = some .converged :=
          (sameTests_measured p x).resume.trans (hback ((returnDue_quietCounted hb).1 hdue))
        simp [returnRequests, returnState, hres, ResumeState.toState]
      · have := searchOff_of hoff
        rw [returnRequests, Bool.and_assoc, this, Bool.and_false]
  · rcases recordBlockEnd_of_not_whole (s := s) hwhole with he | he <;> rw [he] at hmem
    · exact hmem
    · exact hclip ▸ hmem

end Sys2Proof.Machine
end

section
/-! SUPPORT. The pool through a block end: what the releases of the records that lapse make of it (O14). -/

namespace Sys2Proof.Machine

variable {s t u v : State} {id : Identity} {p : Profile} {x r q : Record}

/-! ## The pool as its operations see it -/

/-- A record as the pool sees it: its identity, the offsets of its windows and its unplaced offsets. -/
def Record.poolKey (r : Record) : Identity × List Nat × List Nat := (r.identity, r.held.map (·.offset), r.unplaced)

/-- Two states whose pools are the same: the free count, the waiting list, the part tallies with the grants among them,
and every record's windows by their offsets (R118, R119). -/
structure PoolSame (s t : State) : Prop where
  free : t.free = s.free
  waiting : t.waiting = s.waiting
  part : t.part = s.part
  records : t.records.map Record.poolKey = s.records.map Record.poolKey

theorem PoolSame.refl (s : State) : PoolSame s s := ⟨rfl, rfl, rfl, rfl⟩

theorem PoolSame.trans (h : PoolSame s t) (k : PoolSame t u) : PoolSame s u :=
  ⟨k.free.trans h.free, k.waiting.trans h.waiting, k.part.trans h.part, k.records.trans h.records⟩

theorem PoolSame.symm (h : PoolSame s t) : PoolSame t s :=
  ⟨h.free.symm, h.waiting.symm, h.part.symm, h.records.symm⟩

/-- What a change of records makes of the table as the pool sees it. -/
theorem map_poolKey_update (s : State) (id : Identity) {f : Record → Record}
    {g : Identity × List Nat × List Nat → Identity × List Nat × List Nat} (hf : ∀ r, (f r).poolKey = g r.poolKey) :
    (s.update id f).records.map Record.poolKey =
      (s.records.map Record.poolKey).map fun k => if k.1 = id then g k else k := by
  rw [State.update_records, List.map_map, List.map_map]
  refine List.map_congr_left fun r _ => ?_
  by_cases h : r.identity = id
  · have hk : r.poolKey.1 = id := h
    simp only [Function.comp, h, if_true, hk, hf]
  · have hk : r.poolKey.1 ≠ id := h
    simp only [Function.comp, h, if_false, hk]

/-- A change of records that the pool does not see. -/
theorem PoolSame.update (s : State) (id : Identity) {f : Record → Record} (hf : ∀ r, (f r).poolKey = r.poolKey) :
    PoolSame s (s.update id f) := by
  refine ⟨rfl, rfl, rfl, ?_⟩
  rw [map_poolKey_update s id (g := fun k => k) hf]
  simp

theorem PoolSame.raiseAlarm (s : State) (id : Identity) (k : Alarm) : PoolSame s (s.raiseAlarm id k) := by
  unfold State.raiseAlarm
  split
  · split
    · exact .refl s
    · have h := PoolSame.update s id (f := Record.withAlarm k) fun _ => rfl
      exact ⟨h.free, h.waiting, h.part, h.records⟩
  · exact .refl s

theorem PoolSame.request (s : State) (l : Lane) (id : Identity) : PoolSame s (s.request l id) :=
  ⟨request_free _ _ _, request_waiting _ _ _, request_part _ _ _, by rw [request_records]⟩

theorem PoolSame.cancelSearch (s : State) (id : Identity) : PoolSame s (s.cancelSearch id) :=
  ⟨cancelSearch_free _ _, cancelSearch_waiting _ _, cancelSearch_part _ _, by rw [cancelSearch_records]⟩

theorem PoolSame.supervisorRequest (s : State) (id : Identity) : PoolSame s (s.supervisorRequest id) := by
  unfold State.supervisorRequest
  split
  · split
    · exact .request s _ _
    · exact .refl s
  · exact .refl s

/-- The identity index finds the same windows in two pools that are the same. -/
theorem PoolSame.recordOf (h : PoolSame s t) (id : Identity) :
    (t.recordOf id).map Record.poolKey = (s.recordOf id).map Record.poolKey := by
  have key (w : State) : (w.recordOf id).map Record.poolKey = (w.records.map Record.poolKey).find? (·.1 == id) := by
    rw [List.find?_map]
    rfl
  rw [key, key, h.records]

theorem PoolSame.recordOf_some (h : PoolSame s t) (hr : s.recordOf id = some r) :
    ∃ q, t.recordOf id = some q ∧ q.poolKey = r.poolKey := by
  have hq := h.recordOf id
  rw [hr] at hq
  exact Option.map_eq_some_iff.1 hq

/-! ## Grants and releases -/

theorem insertWindow_offsets (o : Nat) (held : List Window) :
    (insertWindow (zeroWindow o) held).map (·.offset) = (held.map (·.offset)).orderedInsert (· ≤ ·) o := by
  induction held with
  | nil => rfl
  | cons w ws ih =>
    unfold insertWindow
    by_cases h : o ≤ w.offset
    · simp [zeroWindow, h]
    · have : (zeroWindow o).offset = o := rfl
      simp [this, h, ih]

theorem PoolSame.grantHead (h : PoolSame s t) (id : Identity) (o : Nat) (more : List Nat) (behind : List Identity) :
    PoolSame (s.grantHead id o more behind) (t.grantHead id o more behind) := by
  have key (w : State) := map_poolKey_update w id
    (f := fun r => { r with held := insertWindow (zeroWindow o) r.held, unplaced := more })
    (g := fun k => (k.1, k.2.1.orderedInsert (· ≤ ·) o, more))
    fun r => by rw [Record.poolKey, insertWindow_offsets]; rfl
  refine ⟨congrArg (· - 1) h.free, rfl, ?_, ?_⟩
  · exact congrArg (fun part : PartTallies => { part with grants := countUp part.grants }) h.part
  · exact (key t).trans ((congrArg _ h.records).trans (key s).symm)

theorem PoolSame.grantUpTo (n : Nat) (h : PoolSame s t) : PoolSame (s.grantUpTo n) (t.grantUpTo n) := by
  induction n generalizing s t with
  | zero => exact h
  | succ n ih =>
    have hunplaced (id : Identity) : (t.recordOf id).map (·.unplaced) = (s.recordOf id).map (·.unplaced) := by
      have := congrArg (Option.map fun k => k.2.2) (h.recordOf id)
      rwa [Option.map_map, Option.map_map] at this
    unfold State.grantUpTo
    rw [h.waiting]
    cases s.waiting with
    | nil => exact h
    | cons id behind =>
      have hpass := ih (s := { s with waiting := behind }) (t := { t with waiting := behind })
        ⟨h.free, rfl, h.part, h.records⟩
      dsimp only
      rw [hunplaced]
      generalize (s.recordOf id).map (·.unplaced) = unplaced
      rcases unplaced with _ | ⟨_ | ⟨offset, more⟩⟩
      · exact hpass
      · exact hpass
      · exact ih (h.grantHead id offset more behind)

theorem PoolSame.grantAll (h : PoolSame s t) : PoolSame s.grantAll t.grantAll := by
  unfold State.grantAll
  rw [h.free]
  exact h.grantUpTo s.free

theorem PoolSame.returnWindows (h : PoolSame s t) (id : Identity) : PoolSame (s.returnWindows id) (t.returnWindows id) := by
  have hof := h.recordOf id
  have key (w : State) := map_poolKey_update w id (f := Record.emptied) (g := fun k => (k.1, [], [])) fun _ => rfl
  cases hr : s.recordOf id with
  | none =>
    rw [hr, Option.map_none, Option.map_eq_none_iff] at hof
    simpa only [State.returnWindows, hr, hof] using h
  | some r =>
    obtain ⟨q, hq, hkey⟩ := h.recordOf_some hr
    have hlen : q.held.length = r.held.length := by
      have := congrArg (fun k => k.2.1.length) hkey
      simpa [Record.poolKey] using this
    simp only [State.returnWindows, hr, hq]
    refine ⟨?_, ?_, h.part, (key t).trans ((congrArg _ h.records).trans (key s).symm)⟩
    · exact congrArg₂ (· + ·) h.free hlen
    · exact congrArg (List.filter (· != id)) h.waiting

theorem PoolSame.releaseAll (h : PoolSame s t) (id : Identity) : PoolSame (s.releaseAll id) (t.releaseAll id) :=
  (h.returnWindows id).grantAll

/-! ## The work of one record -/

theorem handleClass_poolSame (s : State) (id : Identity) (c : BlockClass) : PoolSame s (s.handleClass id c) := by
  have plain (u : State) {f : Record → Record} (hf : ∀ r, (f r).poolKey = r.poolKey) : PoolSame u (u.update id f) :=
    .update u id hf
  cases c with
  | divergent =>
    refine ((plain s fun r => ?_).trans (.raiseAlarm _ _ _)).trans (.supervisorRequest _ _)
    simp [Record.poolKey, divergeRecord, zeroCoefficients, Function.comp_def]
  | passing =>
    refine (plain s (f := passBlock) fun _ => rfl).trans ?_
    change PoolSame _ (State.promoteIfDue _ id)
    unfold State.promoteIfDue
    split
    · split
      · exact plain _ fun _ => rfl
      · exact .refl _
    · exact .refl _
  | failing =>
    refine (plain s (f := failBlock) fun _ => rfl).trans ?_
    change PoolSame _ (State.changePathIfDue _ id)
    unfold State.changePathIfDue
    split
    · split
      · exact (plain _ (f := changePathRecord) fun _ => rfl).trans (.supervisorRequest _ _)
      · exact .refl _
    · exact .refl _
  | marginal => exact plain s fun _ => rfl

theorem supervise_poolSame (s : State) (id : Identity) : PoolSame s (s.supervise id) := by
  unfold State.supervise
  split
  · split
    · refine PoolSame.trans ?_ (handleClass_poolSame _ _ _)
      unfold State.testEcho
      split
      · exact .raiseAlarm _ _ _
      · exact .refl s
    · exact .refl s
  · exact .refl s

theorem detectClip_poolSame (s : State) (x : Record) : PoolSame s (s.detectClip x) := by
  unfold State.detectClip
  split
  · exact (PoolSame.update s x.identity (f := countClip) fun _ => rfl).trans (.raiseAlarm _ _ _)
  · exact .refl s

theorem judgedBy_poolSame (s : State) (x : Record) : PoolSame s (s.judgedBy x) := by
  have hmeasure (p : Profile) (r : Record) : (measureBlock p r).poolKey = r.poolKey := by rw [measureBlock_eq]; rfl
  have hcount (r : Record) : (countConverged r).poolKey = r.poolKey := by
    unfold countConverged
    split <;> rfl
  exact (((detectClip_poolSame s x).trans (.update _ _ (hmeasure _))).trans (supervise_poolSame _ _)).trans
    (.update _ _ hcount)

theorem toneWork_poolSame (s : State) (id : Identity) : PoolSame s (s.toneWork id) := by
  cases h : s.recordOf id with
  | none => rw [State.toneWork, h]; exact .refl s
  | some q =>
    have hrevise (r : Record) : (reviseToneOrQuiet (s.profileOf q) r).poolKey = r.poolKey := by
      unfold reviseToneOrQuiet
      split <;> rfl
    by_cases hst : q.state = .bypass
    · rw [toneWork_of_bypass h hst]
      dsimp only
      have hback := PoolSame.update s id (f := fun r => returnRecord (reviseToneOrQuiet (s.profileOf q) r)) hrevise
      split
      · split
        · exact hback.trans (.request _ _ _)
        · exact hback
      · exact .update s id hrevise
    · rw [toneWork_of_not_bypass h hst]
      split
      · exact (PoolSame.update s id (f := fun r => bypassRecord (reviseToneOrQuiet (s.profileOf q) r)) hrevise).trans
          (.cancelSearch _ _)
      · exact .update s id hrevise

/-- The idle test as the pool sees it: the release of a record that lapses (R157). -/
theorem idleWork_poolSame (h : s.recordOf id = some q) :
    PoolSame (if lapseDue (s.profileOf q) (reviseIdle (s.profileOf q) q) then s.releaseAll id else s) (s.idleWork id) := by
  have hrevise (r : Record) : (reviseIdle (s.profileOf q) r).poolKey = r.poolKey := by rw [reviseIdle_eq]; rfl
  rw [idleWork_of_some h]
  split
  · have hup := PoolSame.update s id (f := fun r => lapseRecord (reviseIdle (s.profileOf q) r)) hrevise
    have hcancel := (hup.releaseAll id).trans (.cancelSearch _ id)
    exact ⟨hcancel.free, hcancel.waiting, hcancel.part, hcancel.records⟩
  · exact .update s id hrevise

/-- A record's block-end work as the pool sees it: its release, if it lapses (R123, R157). -/
theorem recordBlockEnd_poolSame (hs : s.TableSound) (h : s.recordOf x.identity = some x) :
    PoolSame (if x.Whole ∧ x.LapsesUnder (s.profileOf x) then s.releaseAll x.identity else s) (s.recordBlockEnd x) := by
  have close (u : State) : PoolSame u (u.update x.identity closeBlock) := .update u _ fun _ => rfl
  by_cases hwhole : x.Whole
  · obtain ⟨hl, hw⟩ := hwhole
    have h4 := toneWork_judgedBy_work hs h
    have htone : PoolSame s ((s.judgedBy x).toneWork x.identity) :=
      (judgedBy_poolSame s x).trans (toneWork_poolSame _ _)
    have hidle := (idleWork_poolSame h4.own).trans (close _)
    have hdue := lapseDue_toned (p := s.profileOf x) hl
    rw [h4.profileOf] at hidle
    rw [recordBlockEnd_of_whole hl hw]
    by_cases hL : x.LapsesUnder (s.profileOf x)
    · rw [if_pos (hdue.2 hL)] at hidle
      rw [if_pos ⟨⟨hl, hw⟩, hL⟩]
      exact (htone.releaseAll _).trans hidle
    · rw [if_neg fun hd => hL (hdue.1 hd)] at hidle
      rw [if_neg fun hn => hL hn.2]
      exact htone.trans hidle
  · rw [if_neg fun hn => hwhole hn.1]
    rcases recordBlockEnd_of_not_whole (s := s) hwhole with he | he <;> rw [he]
    · exact .refl s
    · exact (detectClip_poolSame s x).trans (close _)

/-! ## The releases of a block end -/

/-- The release of the record that is at a position in s, if it lapses at the block end, made in v (R157). -/
def State.releasedAt (s v : State) (position : Position) : State :=
  match s.recordAt position with
  | none => v
  | some r => if r.Whole ∧ r.LapsesUnder (s.profileOf r) then v.released r.identity else v

theorem lapsesReleased_eq (s : State) : s.lapsesReleased = allPositions.foldl s.releasedAt s := rfl

theorem releasedAt_of_none {position : Position} (h : s.recordAt position = none) : s.releasedAt v position = v := by
  simp only [State.releasedAt, h]

theorem releasedAt_of_some {position : Position} (h : s.recordAt position = some r) : s.releasedAt v position =
    if r.Whole ∧ r.LapsesUnder (s.profileOf r) then v.released r.identity else v := by
  simp only [State.releasedAt, h]

/-- A state in the course of the block end of another: at some positions the records are still as they were, but for
windows granted to them. -/
structure EndCourse (s t : State) (ps : List Position) : Prop where
  table : t.TableSound
  settings : t.settings = s.settings
  unbound : ∀ position ∈ ps, s.recordAt position = none → t.recordAt position = none
  bound : ∀ position ∈ ps, ∀ r, s.recordAt position = some r → ∃ k, t.recordAt position = some (r.granted k)

/-- The work at the first of the positions leaves the others in the course (R34). -/
theorem EndCourse.next {position : Position} {ps : List Position} (h : EndCourse s t (position :: ps))
    (hnd : position ∉ ps) : EndCourse s (t.positionBlockEnd position) ps := by
  cases hat : t.recordAt position with
  | none =>
    rw [positionBlockEnd_of_none hat]
    exact ⟨h.table, h.settings, fun p hp => h.unbound p (List.mem_cons_of_mem _ hp),
      fun p hp => h.bound p (List.mem_cons_of_mem _ hp)⟩
  | some x =>
    obtain ⟨hx, hxp⟩ := recordAt_some hat
    have hwork := recordBlockEnd_work h.table (recordOf_of_mem h.table.2.1 hx)
    rw [positionBlockEnd_of_some hat]
    refine ⟨hwork.table, hwork.settings.trans h.settings, fun p hp hn => ?_, fun p hp r hr => ?_⟩
    · exact keysStep_recordAt_none (recordBlockEnd_grantsStep t x).toKeysStep (h.unbound p (List.mem_cons_of_mem _ hp) hn)
    · obtain ⟨j, hj⟩ := h.bound p (List.mem_cons_of_mem _ hp) r hr
      obtain ⟨hmem, hpos⟩ := recordAt_some hj
      have hne : r.identity ≠ x.identity := by
        intro he
        have hrx : r.granted j = x := eq_of_identity_eq h.table hmem hx he
        rw [hrx, hxp] at hpos
        exact hnd (hpos ▸ hp)
      obtain ⟨k, hk⟩ := hwork.others (r.granted j).identity hne (r.granted j) (recordOf_of_mem h.table.2.1 hmem)
      rw [granted_granted] at hk
      exact ⟨j + k, (recordAt_eq_some_iff hwork.table).2 ⟨(recordOf_some hk).1, hpos⟩⟩

/-- The block-end work leaves the pool as the releases of the records that lapse leave it (R123, R157). -/
theorem foldl_positionBlockEnd_poolSame {ps : List Position} (hnd : ps.Nodup) (h : EndCourse s t ps)
    (hpool : PoolSame v t) : PoolSame (ps.foldl s.releasedAt v) (ps.foldl State.positionBlockEnd t) := by
  induction ps generalizing t v with
  | nil => exact hpool
  | cons position ps ih =>
    obtain ⟨hp, hnd⟩ := List.nodup_cons.1 hnd
    refine ih hnd (h.next hp) ?_
    cases hat : s.recordAt position with
    | none =>
      rw [releasedAt_of_none hat, positionBlockEnd_of_none (h.unbound _ List.mem_cons_self hat)]
      exact hpool
    | some r =>
      obtain ⟨k, hk⟩ := h.bound _ List.mem_cons_self r hat
      have hof := recordOf_of_mem h.table.2.1 (recordAt_some hk).1
      have hprof : t.profileOf (r.granted k) = s.profileOf r := by rw [State.profileOf, h.settings]; rfl
      have hwork := recordBlockEnd_poolSame h.table hof
      rw [hprof] at hwork
      rw [releasedAt_of_some hat, positionBlockEnd_of_some hk]
      by_cases hL : r.Whole ∧ r.LapsesUnder (s.profileOf r)
      · obtain ⟨q, hq, -⟩ := hpool.symm.recordOf_some hof
        rw [if_pos hL, show v.released r.identity = v.releaseAll r.identity from released_eq hq]
        rw [if_pos (show (r.granted k).Whole ∧ (r.granted k).LapsesUnder (s.profileOf r) from hL)] at hwork
        exact (hpool.releaseAll _).trans hwork
      · rw [if_neg hL]
        rw [if_neg (show ¬((r.granted k).Whole ∧ (r.granted k).LapsesUnder (s.profileOf r)) from hL)] at hwork
        exact hpool.trans hwork

/-- The mark by which a block end is due is nothing to the pool. -/
theorem PoolSame.cleared (s : State) : PoolSame s { s with blockEndDue := false } := ⟨rfl, rfl, rfl, rfl⟩

theorem endBlock_of_due (h : s.blockEndDue = true) :
    s.endBlock = { allPositions.foldl State.positionBlockEnd s with blockEndDue := false } := by
  rw [State.endBlock, if_pos h]

theorem endBlock_poolSame (hdue : s.blockEndDue = true) (hs : s.TableSound) : PoolSame s.lapsesReleased s.endBlock := by
  have hcourse : EndCourse s s allPositions := ⟨hs, rfl, fun _ _ h => h, fun _ _ r h => ⟨0, h⟩⟩
  rw [lapsesReleased_eq, endBlock_of_due hdue]
  exact (foldl_positionBlockEnd_poolSame (List.nodup_finRange 128) hcourse (.refl s)).trans (.cleared _)

/-- Of the part tallies the block end changes the grants alone (R124). -/
theorem endBlock_part (s : State) : s.endBlock.part = { s.part with grants := s.endBlock.part.grants } := by
  unfold State.endBlock
  split
  · have h := (foldl_positionBlockEnd_grantsStep allPositions s).part
    generalize allPositions.foldl State.positionBlockEnd s = t at h
    exact h
  · rfl

/-! ## The search status of a record through the block end -/

theorem mem_priorityLane_of_searchStatus (h : s.searchStatus id = .waitingPriority) : id ∈ s.priorityLane := by
  unfold State.searchStatus at h
  split at h
  · cases h
  · split at h
    · exact List.contains_iff_mem.1 ‹_›
    · split at h <;> cases h

theorem searchStatus_of_mem_priorityLane (h : id ∈ s.priorityLane) :
    s.searchStatus id = .waitingPriority ∨ s.searchStatus id = .running := by
  unfold State.searchStatus
  split
  · exact .inr rfl
  · exact .inl (if_pos (List.contains_iff_mem.2 h))

theorem searchStatus_of_mem_slots (h : ∃ sl ∈ s.slots, sl.identity = id) : s.searchStatus id = .running := by
  obtain ⟨sl, hsl, hi⟩ := h
  exact if_pos (List.any_eq_true.2 ⟨sl, hsl, by simp [hi]⟩)

theorem SearchKept.waitingPriority (h : SearchKept id s t) (hst : s.searchStatus id = .waitingPriority) :
    t.searchStatus id = .waitingPriority ∨ t.searchStatus id = .running :=
  (h.priority (mem_priorityLane_of_searchStatus hst)).elim searchStatus_of_mem_priorityLane
    fun hsl => .inr (searchStatus_of_mem_slots hsl)

theorem SearchKept.waitingOrdinary (h : SearchKept id s t) (hst : s.searchStatus id = .waitingOrdinary) :
    t.searchStatus id ≠ .noSearch := by
  have hin : id ∈ s.searching := by
    by_contra hin
    rw [searchStatus_eq_noSearch_iff.2 hin] at hst
    cases hst
  exact fun hno => searchStatus_eq_noSearch_iff.1 hno (h.searching hin)

theorem SearchKept.cleared (s : State) : SearchKept id s { s with blockEndDue := false } := .of_eq rfl rfl rfl

/-- The block end keeps the search of a record that does not enter BYPASS or lapse (R97 to R99). -/
theorem endBlock_searchKept (hdue : s.blockEndDue = true) (hs : s.TableSound) (hr : r ∈ s.records)
    (hk : ¬r.Whole ∨ ¬r.EntersUnder (s.profileOf r) ∧ ¬r.LapsesUnder (s.profileOf r)) :
    SearchKept r.identity s s.endBlock := by
  rw [endBlock_of_due hdue]
  exact (foldl_positionBlockEnd_searchKept (List.nodup_finRange 128) hs (recordOf_of_mem hs.2.1 hr) fun _ => hk).trans
    (.cleared _)

/-- The block end begins a search of a record by a divergence, a path change or a return to SETTLING alone (R87,
R154). -/
theorem endBlock_searching_subset (hdue : s.blockEndDue = true) (hs : s.TableSound) (hr : r ∈ s.records)
    (hp : p = s.profileOf r)
    (hno : ¬r.Whole ∨ ¬(r.Qualifying ∧ r.DivergentUnder p) ∧ ¬r.PathChanges p ∧
      (r.ReturnsUnder p → r.resume = some .converged) ∨ p.searchOn = false ∨ p.windowLimit = 0)
    (hmem : r.identity ∈ s.endBlock.searching) : r.identity ∈ s.searching := by
  obtain ⟨u, j, hbefore, hown, hprof, hwork, hafter⟩ := endBlock_around hs hr
  have hmem : r.identity ∈ (allPositions.foldl State.positionBlockEnd s).searching := by
    rw [endBlock_of_due hdue] at hmem
    generalize allPositions.foldl State.positionBlockEnd s = t at hmem ⊢
    exact hmem
  have hid : ((r.granted j).blockEnded (s.profileOf r)).identity = r.identity := hwork.identity
  have hmem : r.identity ∈ (u.recordBlockEnd (r.granted j)).searching := hid ▸ hafter.searching.1 (hid.symm ▸ hmem)
  exact hbefore.searching.1
    (recordBlockEnd_searching_subset (x := r.granted j) hbefore.table hown (hp.trans hprof.symm) hno hmem)

end Sys2Proof.Machine

open Sys2Proof Sys2Proof.Machine

/-- Settles O14: what the block end keeps is kept by the work of each record; a record's search, by its own work and by
that of the others; the pool is compared with the releases one position at a time. -/
theorem blockEndFrame : Obligations.BlockEndFrame := by
  intro s hrun
  have hexec : exec .blockEnd s = .next s.endBlock := whileRunning_of_running hrun State.endBlock
  refine ⟨fun hdue => by rw [hexec, endBlock_of_not_due hdue], fun hdue => ?_⟩
  have hkeys := endBlock_keysStep s
  have hcleared : s.endBlock.blockEndDue = false := by rw [hkeys.apart]
  refine ⟨s.endBlock, hexec, hcleared, hkeys.keys, hkeys.apart, ?_, fun r hr hl hs hst => ?_, fun r hr hs => ?_,
    fun hs => ?_, fun tin xin => ?_⟩
  · exact endBlock_part s
  · obtain ⟨t, j, k, ht, hk⟩ := recordOf_endBlock hrun hdue hs hr
    have hu := ((stateSound_iff.1 (hst r hr)).2 (.inr hl)).2
    rw [granted_of_unplaced_nil hu, Record.blockEnded, if_pos hl, granted_of_unplaced_nil hu] at hk
    rw [hexec] at ht
    cases ht
    exact hk
  · refine ⟨fun hk => ?_, fun hst hno => ?_⟩
    · have hkept := endBlock_searchKept hdue hs hr hk
      exact ⟨hkept.slots, hkept.waitingPriority, hkept.waitingOrdinary⟩
    · rw [searchStatus_eq_noSearch_iff] at hst ⊢
      exact fun hmem => hst (endBlock_searching_subset hdue hs hr rfl hno hmem)
  · have hpool := endBlock_poolSame hdue hs
    exact ⟨hpool.free, hpool.waiting, hpool.part, hpool.records⟩
  · rw [exec_frameSync hrun, exec_frameSync (hkeys.running.trans hrun), endBlock_of_not_due hcleared]
end

section
/-! SUPPORT. Adaptation at a frame, as the obligation spells it out (O10). -/

namespace Sys2Proof.Machine

variable {s : State} {p : Profile} {r : Record} {x : List Sample} {talk : TalkState}

theorem cast_square (v : Sample) : (square v : Int) = v.toInt ^ 2 := by
  rw [square, magnitude, Int.natAbs_mul_self, sq]

/-- The window reference power, summed over the integers (R57). -/
theorem cast_referencePower (x : List Sample) (held : List Window) : (referencePower x held : Int) =
    (held.map fun w => ((List.range 64).map fun k => sampleUnder x w k ^ 2).sum).sum := by
  have hwindow (w : Window) : (windowPower x w : Int) = ((List.range 64).map fun k => sampleUnder x w k ^ 2).sum := by
    rw [windowPower, Nat.cast_list_sum, List.map_map]
    exact congrArg List.sum (List.map_congr_left fun k _ => cast_square _)
  rw [referencePower, Nat.cast_list_sum, List.map_map]
  exact congrArg List.sum (List.map_congr_left fun w _ => hwindow w)

/-- The frames at which a record adapts (R56, R57). -/
theorem adapts_iff : adapts p r x talk = true ↔
    (r.state = .settling ∨ r.state = .converged) ∧ r.freeze = false ∧ talk = .far ∧ r.held ≠ [] ∧
      64 * (r.held.length : Int) * (p.referenceFloor : Int) ^ 2 ≤ referencePower x r.held := by
  have hfloor : floorTest p x r.held = true ↔
      64 * (r.held.length : Int) * (p.referenceFloor : Int) ^ 2 ≤ referencePower x r.held := by
    rw [floorTest, decide_eq_true_iff]
    norm_cast
  simp only [adapts, Bool.and_eq_true, cancels_iff, Bool.not_eq_true', beq_iff_eq, List.isEmpty_eq_false_iff, hfloor,
    and_assoc]

/-- A window of 64 taps after its update, tap by tap (R58 to R60). -/
theorem adaptWindow_eq {w : Window} (h : w.coefficients.length = 64) (e : Sample) (power : Nat) :
    adaptWindow p x e power w =
      { offset := w.offset
        coefficients := (List.range 64).map fun k =>
          narrowed (tapOf w k +
            Int.tdiv (e.toInt * sampleUnder x w k * 2 ^ (15 - p.stepExponent))
              ((power : Int) + (p.regularisation : Int) * 256)) } := by
  have htap (k : Nat) (c : Sample) : saturate (c.toInt + updateQuantity p e (lag x (w.offset + k)) power) =
      narrowed (c.toInt + Int.tdiv (e.toInt * sampleUnder x w k * 2 ^ (15 - p.stepExponent))
        ((power : Int) + (p.regularisation : Int) * 256)) := by
    rw [narrowed_eq_saturate, updateQuantity, truncate]
    push_cast
    rfl
  rw [adaptWindow, mapIdx_eq_map_range _ 0 h]
  simp only [htap]
  rfl

/-- What a frame at which no search ends leaves of the windows of a record that is not LAPSED, with the history and the
residual as the obligations spell them out (R36, R56). -/
theorem frame_held (hrun : s.running = true) (hdue : s.blockEndDue = false) (hs : s.TableSound) (hno : s.NoSearchEnds)
    (hr : r ∈ s.records) (hl : r.state ≠ .lapsed) (hheld : ∀ w ∈ r.held, w.coefficients.length = 64)
    (tin xin : List Sample) {e : Sample} (hp : p = s.profileOf r) (hx : x = historyAt s r (timeslotOf tin r.position))
    (he : e = residualAt r x (timeslotOf xin r.position)) :
    ∃ t q, exec (.frameSync tin xin) s = .next t ∧ t.recordOf r.identity = some q ∧
      q.held = heldAfter p r x q.talk e := by
  rw [historyAt_eq, ← hp] at hx
  rw [residualAt_eq hheld] at he
  refine ⟨_, _, exec_frameSync_of_noSearchEnds hrun hdue hno tin xin, recordOf_worked hs hr, ?_⟩
  rw [framed_of_live hl, ← hp, he, hx]
  rfl

end Sys2Proof.Machine

open Sys2Proof Sys2Proof.Machine

/-- Settles O10: the frame work is all there is of the frame, and its windows are those of stage 5. -/
theorem frameAdaptation : Obligations.FrameAdaptation := by
  intro s tin xin r hrun hdue hs hno hr hl hheld p x e power
  obtain ⟨t, q, ht, hq, hafter⟩ := frame_held hrun hdue hs hno hr hl hheld tin xin (p := p) (x := x) (e := e) rfl rfl rfl
  have hpower : power = referencePower x r.held := (cast_referencePower x r.held).symm
  rw [hpower]
  refine ⟨t, ht, q, hq, fun had => ?_, fun hnot => ?_⟩
  · rw [hafter, heldAfter, if_pos (adapts_iff.2 had)]
    exact List.map_congr_left fun w hw => adaptWindow_eq (hheld w hw) e _
  · rw [hafter, heldAfter, if_neg fun had => hnot (adapts_iff.1 had)]
end

section
/-! SUPPORT. What convergence supervision makes of a record at the end of its whole block, class by class (O17). -/

namespace Sys2Proof.Machine

variable {p : Profile} {x y : Record}

/-! ## The counts and tallies by class -/

/-- The counts and tallies that convergence supervision alone moves: pass count, fail count, path changes and
divergences (R83 to R86). -/
def Record.supervision (x : Record) : Nat × Nat × Nat × Nat :=
  (x.passCount, x.failCount, x.tallies.pathChanges, x.tallies.divergences)

theorem supervision_eq_iff {pass fail paths divergences : Nat} : x.supervision = (pass, fail, paths, divergences) ↔
    x.passCount = pass ∧ x.failCount = fail ∧ x.tallies.pathChanges = paths ∧ x.tallies.divergences = divergences := by
  simp only [Record.supervision, Prod.mk.injEq]

theorem supervision_divergent (h : KeptAside x y) : (y.handled .divergent).supervision =
    (0, 0, x.tallies.pathChanges, min 65535 (x.tallies.divergences + 1)) := by
  rw [← h.pathChanges, ← h.divergences]
  rfl

theorem supervision_failing (h : KeptAside x y) (hst : y.state = x.state) : (y.handled .failing).supervision =
    if x.state = .converged ∧ 8 ≤ x.failCount + 1 then
      (0, 0, min 65535 (x.tallies.pathChanges + 1), x.tallies.divergences)
    else
      (0, if x.state = .converged then x.failCount + 1 else x.failCount, x.tallies.pathChanges,
        x.tallies.divergences) := by
  rw [← h.pathChanges, ← h.divergences, ← h.failCount, ← hst, Record.handled, apply_ite Record.supervision]
  exact if_congr (pathChangeDue_failBlock y) rfl rfl

theorem supervision_passing (h : KeptAside x y) (hst : y.state = x.state) : (y.handled .passing).supervision =
    (if x.state = .settling ∧ 3 ≤ x.passCount then 0 else min 4 (x.passCount + 1), 0, x.tallies.pathChanges,
      x.tallies.divergences) := by
  rw [← h.pathChanges, ← h.divergences, ← h.passCount, ← hst, Record.handled, apply_ite Record.supervision,
    apply_ite (·, 0, y.tallies.pathChanges, y.tallies.divergences)]
  exact if_congr (promotionDue_passBlock y) rfl rfl

theorem supervision_marginal (h : KeptAside x y) : (y.handled .marginal).supervision =
    (0, 0, x.tallies.pathChanges, x.tallies.divergences) := by
  rw [← h.pathChanges, ← h.divergences]
  rfl

theorem classify_marginal : classify p x.block = .marginal ↔
    ¬x.DivergentUnder p ∧ ¬x.FailingUnder p ∧ ¬x.PassingUnder p := by
  have hd := classify_divergent (p := p) (r := x)
  have hf := classify_failing (p := p) (r := x)
  have hp := classify_passing (p := p) (r := x)
  cases hc : classify p x.block <;> simp only [hc, reduceCtorEq, true_iff, false_iff] at hd hf hp ⊢ <;> tauto

/-! ## The record as supervision leaves it -/

/-- The record that supervision handles: measured, and tested for a strong echo (R88). -/
theorem echoTested_measured_keptAside (p : Profile) (x : Record) : KeptAside x (x.measured p).echoTested := by
  obtain ⟨h1, h2, h3, h4, h5, h6, h7⟩ := measured_keptAside p x
  rw [echoTested_eq]
  exact ⟨h1, h2, h3, h4, h5, h6, h7⟩

theorem echoTested_measured_state (p : Profile) (x : Record) : (x.measured p).echoTested.state = x.state :=
  (echoTested_state _).trans (measured_state p x)

theorem judged_of_qualifying (h : x.Qualifying) :
    x.judged p = countConverged ((x.measured p).echoTested.handled (classify p x.block)) := by
  rw [Record.judged, Record.supervised, measured_qualifies, if_pos (qualifies_iff.2 h), measured_block]

theorem judged_of_not_qualifying (h : ¬x.Qualifying) : x.judged p = countConverged (x.measured p) := by
  rw [Record.judged, Record.supervised, measured_qualifies, if_neg fun hq => h (qualifies_iff.1 hq)]

theorem countConverged_supervision (x : Record) : (countConverged x).supervision = x.supervision := by
  unfold countConverged
  split <;> rfl

theorem judged_supervision (h : x.Qualifying) :
    (x.judged p).supervision = ((x.measured p).echoTested.handled (classify p x.block)).supervision := by
  rw [judged_of_qualifying h, countConverged_supervision]

theorem judged_supervision_of_not_qualifying (h : ¬x.Qualifying) : (x.judged p).supervision = x.supervision := by
  obtain ⟨h1, h2, -, h4, h5, -, -⟩ := measured_keptAside p x
  rw [judged_of_not_qualifying h, countConverged_supervision, Record.supervision, h1, h2, h4, h5]
  rfl

/-- Of the windows and the converged-blocks tally the handling of a class touches the coefficients alone, and these at a
divergence (R63, R83). -/
theorem handled_untouched (x : Record) (c : BlockClass) :
    (x.handled c).tallies.convergedBlocks = x.tallies.convergedBlocks ∧
      (x.handled c).held = (if c = .divergent then x.held.map zeroCoefficients else x.held) ∧
      (x.handled c).unplaced = x.unplaced := by
  cases c with
  | divergent => exact ⟨rfl, rfl, rfl⟩
  | passing =>
    unfold Record.handled
    dsimp only
    split <;> exact ⟨rfl, rfl, rfl⟩
  | failing =>
    unfold Record.handled
    dsimp only
    split <;> exact ⟨rfl, rfl, rfl⟩
  | marginal => exact ⟨rfl, rfl, rfl⟩

/-- The converged-blocks tally, on the state that supervision leaves (R89). -/
theorem judged_convergedBlocks (p : Profile) (x : Record) : (x.judged p).tallies.convergedBlocks =
    if x.stateLeft p = .converged then min 65535 (x.tallies.convergedBlocks + 1) else x.tallies.convergedBlocks := by
  have hcount (y : Record) : (countConverged y).tallies.convergedBlocks =
      if y.state = .converged then min 65535 (y.tallies.convergedBlocks + 1) else y.tallies.convergedBlocks := by
    unfold countConverged
    split <;> rfl
  have hkept : ((x.measured p).supervised p).tallies.convergedBlocks = x.tallies.convergedBlocks := by
    unfold Record.supervised
    split
    · exact (handled_untouched _ _).1.trans (echoTested_measured_keptAside p x).convergedBlocks
    · exact (measured_keptAside p x).convergedBlocks
  rw [← judged_state, Record.judged, hcount, hkept, countConverged_state]

/-! ## The windows -/

/-- A record with the coefficients zeroed that a divergence zeroes, and not otherwise changed (R63, R83). -/
def Record.windowsJudged (p : Profile) (x : Record) : Record :=
  if x.Qualifying ∧ x.DivergentUnder p then { x with held := x.held.map zeroCoefficients } else x

theorem judged_windows (p : Profile) (x : Record) :
    (x.judged p).held = (x.windowsJudged p).held ∧ (x.judged p).unplaced = (x.windowsJudged p).unplaced := by
  have hkept := echoTested_measured_keptAside p x
  unfold Record.windowsJudged
  by_cases hq : x.Qualifying
  · obtain ⟨-, hheld, hunplaced⟩ := handled_untouched (x.measured p).echoTested (classify p x.block)
    rw [judged_of_qualifying hq, countConverged_held, countConverged_unplaced, hheld, hunplaced, hkept.held,
      hkept.unplaced]
    by_cases hd : x.DivergentUnder p
    · rw [if_pos (classify_divergent.2 hd), if_pos ⟨hq, hd⟩]
      exact ⟨rfl, rfl⟩
    · rw [if_neg fun hc => hd (classify_divergent.1 hc), if_neg fun h => hd h.2]
      exact ⟨rfl, rfl⟩
  · rw [judged_of_not_qualifying hq, if_neg fun h => hq h.1]
    simp

theorem map_zeroCoefficients_insertWindow (o : Nat) (held : List Window) :
    (insertWindow (zeroWindow o) held).map zeroCoefficients =
      insertWindow (zeroWindow o) (held.map zeroCoefficients) := by
  have hzero : zeroCoefficients (zeroWindow o) = zeroWindow o := by simp [zeroCoefficients, zeroWindow]
  induction held with
  | nil => rw [insertWindow, List.map_singleton, hzero]; rfl
  | cons w ws ih =>
    rw [List.map_cons, insertWindow, insertWindow, apply_ite (List.map zeroCoefficients), List.map_cons, List.map_cons,
      List.map_cons, hzero, ih]
    rfl

/-- A window granted before a divergence is as one granted after it: its coefficients are zero (R51, R83). -/
theorem granted_windowsJudged (p : Profile) (x : Record) (j : Nat) :
    (x.granted j).windowsJudged p = (x.windowsJudged p).granted j := by
  have hfold (offsets : List Nat) (held : List Window) :
      (offsets.foldl (fun held o => insertWindow (zeroWindow o) held) held).map zeroCoefficients =
        offsets.foldl (fun held o => insertWindow (zeroWindow o) held) (held.map zeroCoefficients) :=
    (List.foldl_hom (List.map zeroCoefficients) fun held o => (map_zeroCoefficients_insertWindow o held).symm).symm
  have hsame : (x.granted j).Qualifying ∧ (x.granted j).DivergentUnder p ↔ x.Qualifying ∧ x.DivergentUnder p := .rfl
  by_cases h : x.Qualifying ∧ x.DivergentUnder p
  · rw [Record.windowsJudged, Record.windowsJudged, if_pos h, if_pos (hsame.2 h)]
    exact congrArg (fun held => { x.granted j with held := held }) (hfold _ _)
  · rw [Record.windowsJudged, Record.windowsJudged, if_neg h, if_neg fun hg => h (hsame.1 hg)]

/-! ## Through the tone and idle tests -/

/-- What the tone tests leave of a cancelling record as supervision left it (R152, R153). -/
theorem toned_of_cancels_keptAside (h : x.state = .settling ∨ x.state = .converged) :
    KeptAside (x.judged p) (x.toned p) := by
  rw [toned_of_cancels h, Record.toneCounted]
  generalize x.judged p = y
  split <;> exact ⟨rfl, rfl, rfl, rfl, rfl, rfl, rfl⟩

theorem blockEnded_supervision (h : x.state = .settling ∨ x.state = .converged) (hl : x.state ≠ .lapsed)
    (hw : x.block.live = 64) : (x.blockEnded p).supervision = (x.judged p).supervision ∧
      (x.blockEnded p).tallies.convergedBlocks = (x.judged p).tallies.convergedBlocks := by
  obtain ⟨-, -, -, hpass, hfail, htallies⟩ := blockEnded_counts (p := p) hl hw
  have hkept := toned_of_cancels_keptAside (p := p) h
  rw [Record.supervision, hpass, hfail, htallies, hkept.passCount, hkept.failCount, hkept.pathChanges,
    hkept.divergences, hkept.convergedBlocks]
  exact ⟨rfl, rfl⟩

theorem blockEnded_windows (h : x.state = .settling ∨ x.state = .converged) (hl : x.state ≠ .lapsed)
    (hw : x.block.live = 64) (hL : ¬x.LapsesUnder p) :
    (x.blockEnded p).held = (x.windowsJudged p).held ∧ (x.blockEnded p).unplaced = (x.windowsJudged p).unplaced := by
  obtain ⟨-, -, hheld, hunplaced⟩ := blockEnded_of_stays hl hw hL
  have hkept := toned_of_cancels_keptAside (p := p) h
  obtain ⟨hheld', hunplaced'⟩ := judged_windows p x
  exact ⟨hheld.trans (hkept.held.trans hheld'), hunplaced.trans (hkept.unplaced.trans hunplaced')⟩

end Sys2Proof.Machine
end

section
/-! SUPPORT. The supervisor's request through a block end (O17). -/

namespace Sys2Proof.Machine

variable {s t u : State} {id : Identity} {p : Profile} {x q : Record}

/-! ## A search wanted -/

/-- A record's search waits with priority or runs. -/
abbrev State.SearchWanted (s : State) (id : Identity) : Prop :=
  s.searchStatus id = .waitingPriority ∨ s.searchStatus id = .running

theorem mem_slots_of_searchStatus (h : s.searchStatus id = .running) : ∃ sl ∈ s.slots, sl.identity = id := by
  unfold State.searchStatus at h
  split at h
  · simpa using ‹s.slots.any (·.identity == id) = true›
  · split at h
    · cases h
    · split at h <;> cases h

theorem searchWanted_iff : s.SearchWanted id ↔ id ∈ s.priorityLane ∨ ∃ sl ∈ s.slots, sl.identity = id := by
  refine ⟨?_, fun h => h.elim searchStatus_of_mem_priorityLane fun h => .inr (searchStatus_of_mem_slots h)⟩
  rintro (h | h)
  · exact .inl (mem_priorityLane_of_searchStatus h)
  · exact .inr (mem_slots_of_searchStatus h)

theorem SearchKept.wanted (h : SearchKept id s t) (hs : s.SearchWanted id) : t.SearchWanted id := by
  rcases searchWanted_iff.1 hs with hp | ⟨sl, hsl, hi⟩
  · exact searchWanted_iff.2 (h.priority hp)
  · exact searchWanted_iff.2 (.inr ⟨sl, h.slots sl hsl hi, hi⟩)

/-- A priority request leaves the record waiting with priority or running (R98). -/
theorem request_priority_wanted (s : State) (id : Identity) : (s.request .priority id).SearchWanted id := by
  have joined (s : State) (h : id ∈ s.priorityLane) : s.arbitrate.SearchWanted id :=
    (SearchKept.arbitrate s).wanted (searchWanted_iff.2 (.inl h))
  unfold State.request
  cases hst : s.searchStatus id with
  | noSearch => exact joined _ (by simp)
  | waitingOrdinary => exact joined _ (by simp)
  | waitingPriority => exact .inl hst
  | running => exact .inr hst

/-! ## The supervisor's request -/

/-- With the searches of its profile on, the supervisor puts its request for a record (R87). -/
theorem supervisorRequest_wanted (h : s.recordOf id = some q) (hon : (s.profileOf q).searchOn = true)
    (hlim : 1 ≤ (s.profileOf q).windowLimit) : (s.supervisorRequest id).SearchWanted id := by
  have hreq : s.supervisorRequest id = s.request .priority id := by
    simp only [State.supervisorRequest, h, hon, decide_eq_true hlim, Bool.and_self, if_true]
  rw [hreq]
  exact request_priority_wanted s id

/-- A divergence and a path change put the supervisor's request (R83, R85, R87). -/
theorem handleClass_wanted (h : s.recordOf id = some q) (c : BlockClass)
    (hc : c = .divergent ∨ c = .failing ∧ pathChangeDue (failBlock q) = true)
    (hon : (s.profileOf q).searchOn = true) (hlim : 1 ≤ (s.profileOf q).windowLimit) :
    (s.handleClass id c).SearchWanted id := by
  rcases hc with rfl | ⟨rfl, hdue⟩
  · have hP := raiseAlarm_poolStep (s.update id divergeRecord) id .diverged
    have hprof : ((s.update id divergeRecord).raiseAlarm id .diverged).profileOf
        ((divergeRecord q).withAlarm .diverged) = s.profileOf q := sameApart_profileOf hP.apart _
    exact supervisorRequest_wanted (recordOf_raiseAlarm_self (recordOf_update_self divergeRecord_identity h) .diverged)
      (hprof ▸ hon) (hprof ▸ hlim)
  · rw [handleClass_failing h, if_pos hdue]
    exact supervisorRequest_wanted
      (recordOf_update_self (f := fun y => changePathRecord (failBlock y)) (fun _ => rfl) h) hon hlim

/-- A record for which the supervisor puts its request at a block end (R83, R85, R87). -/
structure Record.Requests (p : Profile) (x : Record) : Prop where
  due : (x.Qualifying ∧ x.DivergentUnder p) ∨ x.PathChanges p
  searchOn : p.searchOn = true
  windowLimit : 1 ≤ p.windowLimit

theorem Record.Requests.qualifying (h : x.Requests p) : x.Qualifying := h.due.elim And.left And.left

theorem Record.Requests.granted (h : x.Requests p) (k : Nat) : (x.granted k).Requests p :=
  ⟨h.due, h.searchOn, h.windowLimit⟩

theorem judgedBy_wanted (hs : s.TableSound) (h : s.recordOf x.identity = some x) (hreq : x.Requests (s.profileOf x)) :
    (s.judgedBy x).SearchWanted x.identity := by
  have hm := measuredBy_work hs h
  have hq : qualifies (x.measured (s.profileOf x)) = true :=
    (measured_qualifies _ x).trans (qualifies_iff.2 hreq.qualifying)
  have hP := testEcho_poolStep (s.measuredBy x) (x.measured (s.profileOf x))
  have hecho := recordOf_testEcho hm.named
  rw [hm.identity] at hecho
  have hprof : ((s.measuredBy x).testEcho (x.measured (s.profileOf x))).profileOf
      (x.measured (s.profileOf x)).echoTested = s.profileOf x := by
    rw [sameApart_profileOf hP.apart, ← hm.profileOf, echoTested_eq]
    rfl
  have hclass : classify (s.profileOf x) x.block = .divergent ∨
      classify (s.profileOf x) x.block = .failing ∧
        pathChangeDue (failBlock (x.measured (s.profileOf x)).echoTested) = true := by
    refine hreq.due.imp (fun hd => classify_divergent.2 hd.2) fun ⟨_, hnd, hf, hst, hcount⟩ => ?_
    refine ⟨classify_failing.2 ⟨hnd, hf⟩, (pathChangeDue_failBlock _).2 ⟨?_, ?_⟩⟩
    · exact (echoTested_measured_state _ x).trans hst
    · rw [(echoTested_measured_keptAside _ x).failCount]
      exact hcount
  change (State.supervise _ _).SearchWanted _
  rw [supervise_of_some hm.own, if_pos hq, hm.profileOf, measured_block]
  exact handleClass_wanted hecho _ hclass (hprof.symm ▸ hreq.searchOn) (hprof.symm ▸ hreq.windowLimit)

/-! ## The request through the block end -/

/-- The tone and idle tests leave the request, unless the record enters BYPASS or lapses (R153, R157). -/
theorem recordBlockEnd_wanted (hs : s.TableSound) (h : s.recordOf x.identity = some x) (hwhole : x.Whole)
    (hE : ¬x.EntersUnder (s.profileOf x)) (hL : ¬x.LapsesUnder (s.profileOf x)) (hreq : x.Requests (s.profileOf x)) :
    (s.recordBlockEnd x).SearchWanted x.identity := by
  obtain ⟨hl, hw⟩ := hwhole
  have htoned := toneWork_judgedBy_work hs h
  have hidle : SearchKept x.identity _ _ := idleWork_searchKept (id := x.identity) htoned.own (.inr fun hdue => hL (by
    rw [htoned.profileOf] at hdue
    exact (lapseDue_toned hl).1 hdue))
  rw [recordBlockEnd_of_whole hl hw]
  exact ((toneWork_searchKept (judgedBy_work hs h) (.inr hE)).trans hidle).wanted (judgedBy_wanted hs h hreq)

theorem foldl_positionBlockEnd_wanted {ps : List Position} (hnd : ps.Nodup) (hs : s.TableSound)
    (h : s.recordOf x.identity = some x) (hmem : x.position ∈ ps) (hwhole : x.Whole)
    (hE : ¬x.EntersUnder (s.profileOf x)) (hL : ¬x.LapsesUnder (s.profileOf x)) (hreq : x.Requests (s.profileOf x)) :
    (ps.foldl State.positionBlockEnd s).SearchWanted x.identity := by
  induction ps generalizing s x with
  | nil => cases hmem
  | cons p ps ih =>
    obtain ⟨hp, hnd'⟩ := List.nodup_cons.1 hnd
    rw [List.foldl_cons]
    by_cases hpx : p = x.position
    · subst hpx
      have hwork := recordBlockEnd_work hs h
      have hrest := foldl_positionBlockEnd_searchKept hnd' hwork.table hwork.named fun hin =>
        absurd (hwork.position ▸ hin) hp
      rw [hwork.identity] at hrest
      rw [positionBlockEnd_of_some ((recordAt_eq_some_iff hs).2 ⟨(recordOf_some h).1, rfl⟩)]
      exact hrest.wanted (recordBlockEnd_wanted hs h hwhole hE hL hreq)
    · have hmem := (List.mem_cons.1 hmem).resolve_left (Ne.symm hpx)
      have haside := foldl_positionBlockEnd_aside (ps := [p]) hs h (by simpa using Ne.symm hpx)
      obtain ⟨k, hk⟩ := haside.granted
      have hprof : (s.positionBlockEnd p).profileOf (x.granted k) = s.profileOf x := by
        rw [State.profileOf, show (s.positionBlockEnd p).settings = s.settings from haside.settings]
        rfl
      exact ih (x := x.granted k) hnd' haside.table hk hmem hwhole (hprof ▸ hE) (hprof ▸ hL) (hprof ▸ hreq.granted k)

end Sys2Proof.Machine

open Sys2Proof Sys2Proof.Machine

/-- Settles O17: the record's own block-end work stands between grants, which no class reads and which commute with the
zeroing of a divergence; the tone and idle tests leave what supervision counts. -/
theorem blockEndConvergence : Obligations.BlockEndConvergence := by
  intro s r hrun hdue hs hr hw hst p judged
  have hl : r.state ≠ .lapsed := by rcases hst with h | h <;> rw [h] <;> rintro ⟨⟩
  obtain ⟨u, j, -, -, -, hwork, hafter⟩ := endBlock_around hs hr
  rw [show s.profileOf r = p from rfl] at hwork hafter
  have hexec := exec_blockEnd hrun hdue
  have hwanted := foldl_positionBlockEnd_wanted (ps := allPositions) (List.nodup_finRange 128) hs
    (recordOf_of_mem hs.2.1 hr) (List.mem_finRange _) ⟨hl, hw⟩
  generalize allPositions.foldl State.positionBlockEnd s = v at hexec hafter hwanted
  obtain ⟨k, hk⟩ := hafter.granted
  rw [hwork.identity] at hk
  obtain ⟨hsup, hconv⟩ := blockEnded_supervision (x := r.granted j) (p := p) hst hl hw
  have hkept := echoTested_measured_keptAside p (r.granted j)
  have hkeptState := echoTested_measured_state p (r.granted j)
  have hclass (hq : r.Qualifying) {c : BlockClass} (hc : classify p r.block = c) :
      ((r.granted j).blockEnded p).supervision = (((r.granted j).measured p).echoTested.handled c).supervision :=
    hc ▸ hsup.trans (judged_supervision (x := r.granted j) hq)
  refine ⟨_, hexec, ((r.granted j).blockEnded p).granted k, hk, fun hq => ?_, fun hq hd => ?_, fun hq hnd hf => ?_,
    fun hq hpass hnd => ?_, fun hq hnd hnf hnp => ?_, hconv.trans (judged_convergedBlocks p (r.granted j)),
    fun hL => ⟨j + k, ?_⟩, fun hE hL => ?_⟩
  · exact supervision_eq_iff.1 (hsup.trans (judged_supervision_of_not_qualifying (x := r.granted j) hq))
  · exact supervision_eq_iff.1
      ((hclass hq (classify_divergent.2 hd)).trans (supervision_divergent (x := r.granted j) hkept))
  · have hfailing := (hclass hq (classify_failing.2 ⟨hnd, hf⟩)).trans (supervision_failing hkept hkeptState)
    by_cases hc : r.state = .converged ∧ 8 ≤ r.failCount + 1
    · obtain ⟨hpass, hfail, hpaths, hdivs⟩ := supervision_eq_iff.1 (hfailing.trans (if_pos hc))
      exact ⟨hpass, hdivs, fun _ _ => ⟨hfail, hpaths⟩, fun _ hlt => absurd hc.2 (not_le.2 hlt),
        fun hset => by rw [hset] at hc; cases hc.1⟩
    · obtain ⟨hpass, hfail, hpaths, hdivs⟩ := supervision_eq_iff.1 (hfailing.trans (if_neg hc))
      exact ⟨hpass, hdivs, fun hcon hle => absurd ⟨hcon, hle⟩ hc, fun hcon _ => ⟨hfail.trans (if_pos hcon), hpaths⟩,
        fun hset => ⟨hfail.trans (if_neg (by rw [show (r.granted j).state = _ from hset]; rintro ⟨⟩)), hpaths⟩⟩
  · have hnf := not_failing_of_passing hpass
    obtain ⟨hpasses, hfail, hpaths, hdivs⟩ := supervision_eq_iff.1
      ((hclass hq (classify_passing.2 ⟨hnd, hnf, hpass⟩)).trans (supervision_passing hkept hkeptState))
    refine ⟨hfail, hpaths, hdivs, fun hset hle => hpasses.trans (if_pos ⟨hset, hle⟩), fun _ hlt => ?_, fun hcon => ?_⟩
    · have hmin : min 4 (r.passCount + 1) = r.passCount + 1 := by omega
      exact (hpasses.trans (if_neg fun h => absurd h.2 (not_le.2 hlt))).trans hmin
    · exact hpasses.trans (if_neg fun h => by cases hcon.symm.trans h.1)
  · exact supervision_eq_iff.1
      ((hclass hq (classify_marginal.2 ⟨hnd, hnf, hnp⟩)).trans (supervision_marginal (x := r.granted j) hkept))
  · obtain ⟨hheld, hunplaced⟩ := blockEnded_windows (x := r.granted j) hst hl hw hL
    rw [granted_windowsJudged] at hheld hunplaced
    rw [← granted_granted]
    exact granted_congr hheld hunplaced k
  · obtain ⟨hstate, hresume, -, -⟩ := blockEnded_of_stays (x := r.granted j) hl hw hL
    have hnreturns : ¬(r.granted j).ReturnsUnder p := fun hR => not_cancels_of_bypass hR.1 hst
    obtain ⟨hresume', hstate'⟩ := toned_of_neither (x := r.granted j) hl hE hnreturns
    exact ⟨hstate.trans hstate', hresume.trans hresume', fun hput hon hlim => hwanted hE hL ⟨hput, hon, hlim⟩⟩
end

section
/-! SUPPORT. Talk detection at a frame: the two decisions and the near hold as the obligation spells them out (O8). -/

namespace Sys2Proof.Machine

variable {p : Profile} {x : List Sample}

/-- The near trigger, spelled out by the lags of the history (R70). -/
abbrev NearTriggeredAt (p : Profile) (x : List Sample) (y : Sample) : Prop :=
  p.speechFloor ≤ absolute y ∧ ∀ j < 1024, absolute (earlier x j) < absolute y * 2 ^ p.doubleTalkShift

/-- The largest of a whole history is below a quantity exactly when the sample at every lag is: a lag past the end of the
history reads 0, and it is lag 0 that bounds the 0 from which the maximum starts (R42, R70). -/
theorem largestMagnitude_lt_iff (hx : x.length ≤ 1024) (n : Nat) :
    largestMagnitude x < n ↔ ∀ j < 1024, absolute (earlier x j) < n := by
  rw [← not_le, largestMagnitude, le_foldl_max_iff, not_or, not_le]
  constructor
  · rintro ⟨hpos, hall⟩ j -
    by_cases hj : j < x.length
    · have hlt : magnitude x[j] < n := not_le.1 fun hle => hall ⟨x[j], List.getElem_mem hj, hle⟩
      simpa [earlier, hj, absolute, magnitude] using hlt
    · simpa [earlier, List.getElem?_eq_none (not_lt.1 hj), absolute] using hpos
  · intro hall
    refine ⟨(Nat.zero_le _).trans_lt (hall 0 (by omega)), ?_⟩
    rintro ⟨v, hv, hle⟩
    obtain ⟨j, hj, rfl⟩ := List.mem_iff_getElem.1 hv
    have hlt := hall j (hj.trans_le hx)
    exact absurd hle (not_le.2 (by simpa [earlier, hj, absolute, magnitude] using hlt))

theorem historyAt_length_le (s : State) (r : Record) (tin : Sample) : (historyAt s r tin).length ≤ 1024 :=
  List.length_take_le _ _

theorem farDecision_iff : farDecision p x = true ↔ ∃ j < 64, p.speechFloor ≤ absolute (earlier x j) :=
  decide_eq_true_iff.trans (le_largestMagnitude_iff x p.speechFloor)

theorem nearTrigger_iff (hx : x.length ≤ 1024) (y : Sample) : nearTrigger p x y = true ↔ NearTriggeredAt p x y := by
  rw [nearTrigger, Bool.and_eq_true, decide_eq_true_iff, decide_eq_true_iff, largestMagnitude_lt_iff hx]
  rfl

theorem nearDecision_iff {trigger : Bool} {hold : Nat} :
    nearDecision trigger hold = true ↔ trigger = true ∨ 0 < hold := by
  rw [nearDecision, Bool.or_eq_true, decide_eq_true_iff]

/-- The far decision is read back from the talk state (R72). -/
theorem talkStateOf_far_iff (far near : Bool) :
    talkStateOf far near = .far ∨ talkStateOf far near = .double ↔ far = true := by
  cases far <;> cases near <;> decide

/-- The near decision is read back from the talk state (R72). -/
theorem talkStateOf_near_iff (far near : Bool) :
    talkStateOf far near = .near ∨ talkStateOf far near = .double ↔ near = true := by
  cases far <;> cases near <;> decide

/-- What stage 3 of a frame leaves of a record that is not LAPSED; no end of a search changes it (R36, R72). -/
theorem frame_talk {s : State} {r : Record} (hrun : s.running = true) (hdue : s.blockEndDue = false) (hs : s.TableSound)
    (hr : r ∈ s.records) (hl : r.state ≠ .lapsed) (tin xin : List Sample) {trigger : Bool} (hp : p = s.profileOf r)
    (hx : x = historyAt s r (timeslotOf tin r.position))
    (htrigger : trigger = nearTrigger p x (timeslotOf xin r.position)) :
    ∃ t q, exec (.frameSync tin xin) s = .next t ∧ t.recordOf r.identity = some q ∧
      q.talk = talkStateOf (farDecision p x) (nearDecision trigger r.nearHold) ∧
      q.nearHold = nextNearHold p trigger r.nearHold := by
  obtain ⟨t, q, ht, hq, hchange, -, -⟩ := frame_of_record hrun hdue hs hr tin xin
  rw [framed_of_live hl] at hchange
  rw [historyAt_eq] at hx
  subst hp hx htrigger
  exact ⟨t, q, ht, hq, by rw [hchange]; rfl, by rw [hchange]; rfl⟩

end Sys2Proof.Machine

open Sys2Proof Sys2Proof.Machine

/-- Settles O8: both decisions are read back from the talk state, and each maximum is a statement about every lag. -/
theorem frameTalkDecision : Obligations.FrameTalkDecision := by
  intro s tin xin r hrun hdue hs hr hl p x y
  obtain ⟨t, q, ht, hq, htalk, hhold⟩ := frame_talk hrun hdue hs hr hl tin xin (p := p) (x := x) rfl rfl rfl
  have htrigger := nearTrigger_iff (p := p) (historyAt_length_le s r (timeslotOf tin r.position))
    (timeslotOf xin r.position)
  refine ⟨t, ht, q, hq, ?_, ?_, fun hn => ?_, fun hn => ?_⟩
  · rw [htalk]
    exact (talkStateOf_far_iff _ _).trans farDecision_iff
  · rw [htalk]
    exact ((talkStateOf_near_iff _ _).trans nearDecision_iff).trans (or_congr_left htrigger)
  · exact hhold.trans (if_pos (htrigger.2 hn))
  · exact hhold.trans (if_neg (mt htrigger.1 hn))
end

section
/-! SUPPORT. The supervisor's transitions as steps of their own: when each is due, and the record it leaves (O20). -/

namespace Sys2Proof.Machine

variable {s : State} {id : Identity} {r : Record} {p : Profile}

/-! ## The rows on a running part -/

theorem exec_promotion (hrun : s.running = true) (id : Identity) : exec (.promotion id) s = .next (s.promoteIfDue id) :=
  whileRunning_of_running hrun fun s => s.promoteIfDue id

theorem exec_pathChange (hrun : s.running = true) (id : Identity) :
    exec (.pathChange id) s = .next (s.changePathIfDue id) :=
  whileRunning_of_running hrun fun s => s.changePathIfDue id

theorem exec_entryToBypass (hrun : s.running = true) (id : Identity) :
    exec (.entryToBypass id) s = .next (s.enterBypassIfDue id) :=
  whileRunning_of_running hrun fun s => s.enterBypassIfDue id

theorem exec_returnFromBypass (hrun : s.running = true) (id : Identity) :
    exec (.returnFromBypass id) s = .next (s.returnIfDue id) :=
  whileRunning_of_running hrun fun s => s.returnIfDue id

/-! ## When a transition is due -/

theorem promotionDue_iff : promotionDue r = true ↔ r.state = .settling ∧ 4 ≤ r.passCount := by
  rw [promotionDue, Bool.and_eq_true, beq_iff_eq, decide_eq_true_iff]

theorem pathChangeDue_iff : pathChangeDue r = true ↔ r.state = .converged ∧ 8 ≤ r.failCount := by
  rw [pathChangeDue, Bool.and_eq_true, beq_iff_eq, decide_eq_true_iff]

theorem bypassDue_iff : bypassDue r = true ↔ (r.state = .settling ∨ r.state = .converged) ∧ 50 ≤ r.toneCount := by
  rw [bypassDue, Bool.and_eq_true, cancels_iff, decide_eq_true_iff]

theorem returnDue_iff : returnDue r = true ↔ r.state = .bypass ∧ 32 ≤ r.quietCount := by
  rw [returnDue, Bool.and_eq_true, beq_iff_eq, decide_eq_true_iff]

theorem returnRequests_iff :
    returnRequests p r = true ↔ returnState r = .settling ∧ p.searchOn = true ∧ 1 ≤ p.windowLimit := by
  rw [returnRequests, Bool.and_eq_true, Bool.and_eq_true, beq_iff_eq, decide_eq_true_iff, and_assoc]

/-! ## What a transition leaves -/

/-- The resume state names the state that a cancelling record leaves (R153). -/
theorem resumeOf_eq {st : RecordState} : resumeOf st = if st = .converged then .converged else .settling := by
  cases st <;> rfl

/-- The supervisor's request for a record that the table holds (R87). -/
theorem supervisorRequest_of_some (h : s.recordOf id = some r) : s.supervisorRequest id =
    if (s.profileOf r).searchOn = true ∧ 1 ≤ (s.profileOf r).windowLimit then s.request .priority id else s := by
  simp only [State.supervisorRequest, h, Bool.and_eq_true, decide_eq_true_iff]

/-- The path change puts the supervisor's request by the record's own profile, which it keeps (R85, R87). -/
theorem changePathIfDue_of_due (h : s.recordOf id = some r) (hdue : pathChangeDue r = true) :
    s.changePathIfDue id =
      if (s.profileOf r).searchOn = true ∧ 1 ≤ (s.profileOf r).windowLimit then
        (s.update id changePathRecord).request .priority id
      else s.update id changePathRecord := by
  rw [changePathIfDue_of_some h, if_pos hdue,
    supervisorRequest_of_some (recordOf_update_self changePathRecord_identity h)]
  rfl

/-- Entry to BYPASS where it is due takes the record out of the search unit and leaves all but the table and the search
unit as before (R99, R111, R153). -/
theorem enterBypassIfDue_of_due (h : s.recordOf id = some r) (hdue : bypassDue r = true) :
    (s.enterBypassIfDue id).records = (s.update id bypassRecord).records ∧
      (s.enterBypassIfDue id).searchStatus id = .noSearch ∧ s.SearchDropped (s.enterBypassIfDue id) id ∧
      s.enterBypassIfDue id =
        { s with
          records := (s.enterBypassIfDue id).records, priorityLane := (s.enterBypassIfDue id).priorityLane
          ordinaryLane := (s.enterBypassIfDue id).ordinaryLane, slots := (s.enterBypassIfDue id).slots } := by
  rw [enterBypassIfDue_of_some h, if_pos hdue]
  refine ⟨cancelSearch_records _ _, searchStatus_cancelSearch _ _, cancelSearch_congr id (s := s) rfl rfl rfl, ?_⟩
  rw [cancelSearch_records]
  exact cancelSearch_eq _ id

end Sys2Proof.Machine

open Sys2Proof Sys2Proof.Machine

/-- Settles O20: on a running part each row is its transition, and in a sound table that writes one value, the changed
record's. -/
theorem supervisorTransitions : Obligations.SupervisorTransitions := by
  intro s id r hrun hs h
  have hrow (f : Record → Record) := update_eq_const hs h f
  rw [exec_promotion hrun, exec_pathChange hrun, exec_entryToBypass hrun, exec_returnFromBypass hrun]
  refine ⟨congrArg _ ?promotion, congrArg _ ?pathChange, fun hno => congrArg _ ?noEntry, fun hst hcount => ?entry,
    fun hno => congrArg _ ?noReturn, fun hst hcount => ?back⟩
  case promotion =>
    rw [promoteIfDue_of_some h, hrow]
    exact if_congr promotionDue_iff rfl rfl
  case pathChange =>
    by_cases hdue : pathChangeDue r = true
    · rw [changePathIfDue_of_due h hdue, hrow, if_pos (pathChangeDue_iff.1 hdue)]
      rfl
    · rw [changePathIfDue_of_some h, if_neg hdue, if_neg (mt pathChangeDue_iff.2 hdue)]
  case noEntry => rw [enterBypassIfDue_of_some h, if_neg (mt bypassDue_iff.1 hno)]
  case entry =>
    obtain ⟨hrecords, hsearch⟩ := enterBypassIfDue_of_due h (bypassDue_iff.2 ⟨hst, hcount⟩)
    refine ⟨s.enterBypassIfDue id, rfl, ?_, hsearch⟩
    rw [hrecords, hrow, ← resumeOf_eq]
    rfl
  case noReturn => rw [returnIfDue_of_some h, if_neg (mt returnDue_iff.1 hno)]
  case back =>
    intro back returned
    have hback : returnState r = back := resumed_eq r.resume
    clear_value back
    subst hback
    rw [returnIfDue_of_some h, if_pos (returnDue_iff.2 ⟨hst, hcount⟩), hrow]
    exact congrArg _ (if_congr returnRequests_iff rfl rfl)
end

section
/-! SUPPORT. The arbiter in closed form, and the place that each search status names (O22). -/

namespace Sys2Proof.Machine

variable {s : State} {id : Identity}

/-! ## The arbiter -/

/-- The arbiter takes entries from the two lanes as from one queue, the priority lane in front (R97). -/
theorem fillSlots_eq (n : Nat) (s : State) : s.fillSlots n =
    { s with
      slots := s.slots ++ ((s.priorityLane ++ s.ordinaryLane).take n).map freshSlot
      priorityLane := s.priorityLane.drop n
      ordinaryLane := s.ordinaryLane.drop (n - s.priorityLane.length) } := by
  induction n generalizing s with
  | zero => simp [State.fillSlots]
  | succ n ih =>
    cases hp : s.priorityLane with
    | cons id rest => simp [State.fillSlots, hp, ih]
    | nil =>
      cases ho : s.ordinaryLane with
      | cons id rest => simp [State.fillSlots, hp, ho, ih]
      | nil =>
        rw [fillSlots_of_empty _ hp ho]
        cases s
        simp_all

/-! ## The search status -/

/-- No record stands in two of the three places (R95). -/
theorem places_disjoint (h : s.searching.Nodup) :
    ((∃ sl ∈ s.slots, sl.identity = id) → id ∉ s.priorityLane ∧ id ∉ s.ordinaryLane) ∧
      (id ∈ s.priorityLane → id ∉ s.ordinaryLane) := by
  rw [State.searching, List.append_assoc, List.nodup_append, List.nodup_append] at h
  obtain ⟨-, ⟨-, -, hlanes⟩, hslots⟩ := h
  refine ⟨?_, fun hp ho => hlanes id hp id ho rfl⟩
  rintro ⟨sl, hsl, hi⟩
  have hout : id ∉ s.priorityLane ++ s.ordinaryLane := fun hmem =>
    hslots id (List.mem_map.2 ⟨sl, hsl, hi⟩) id hmem rfl
  exact ⟨fun hp => hout (List.mem_append_left _ hp), fun ho => hout (List.mem_append_right _ ho)⟩

theorem searchStatus_eq_running_iff : s.searchStatus id = .running ↔ ∃ sl ∈ s.slots, sl.identity = id :=
  ⟨mem_slots_of_searchStatus, searchStatus_of_mem_slots⟩

theorem searchStatus_eq_waitingPriority_iff (h : s.searching.Nodup) :
    s.searchStatus id = .waitingPriority ↔ id ∈ s.priorityLane := by
  refine ⟨mem_priorityLane_of_searchStatus, fun hp => (searchStatus_of_mem_priorityLane hp).resolve_right fun hrun => ?_⟩
  exact ((places_disjoint h).1 (mem_slots_of_searchStatus hrun)).1 hp

theorem mem_ordinaryLane_of_searchStatus (h : s.searchStatus id = .waitingOrdinary) : id ∈ s.ordinaryLane := by
  unfold State.searchStatus at h
  split at h
  · cases h
  · split at h
    · cases h
    · split at h
      · exact List.contains_iff_mem.1 ‹_›
      · cases h

theorem searchStatus_eq_waitingOrdinary_iff (h : s.searching.Nodup) :
    s.searchStatus id = .waitingOrdinary ↔ id ∈ s.ordinaryLane := by
  refine ⟨mem_ordinaryLane_of_searchStatus, fun ho => ?_⟩
  cases hst : s.searchStatus id with
  | waitingOrdinary => rfl
  | running => exact absurd ho ((places_disjoint h).1 (mem_slots_of_searchStatus hst)).2
  | waitingPriority => exact absurd ho ((places_disjoint h).2 (mem_priorityLane_of_searchStatus hst))
  | noSearch => exact absurd (mem_searching.2 (.inr (.inr ho))) (searchStatus_eq_noSearch_iff.1 hst)

end Sys2Proof.Machine

open Sys2Proof Sys2Proof.Machine

/-- Settles O22: the arbiter by its closed form, a request by the search status it finds, and the status by its place. -/
theorem arbiterFillsFreeSlots : Obligations.ArbiterFillsFreeSlots := by
  intro s id n
  refine ⟨fillSlots_eq n s, ?ordinary, ?priority, fun ⟨_, honce, _, _⟩ => ⟨searchStatus_eq_running_iff,
    searchStatus_eq_waitingPriority_iff honce, searchStatus_eq_waitingOrdinary_iff honce⟩⟩
  case ordinary =>
    rw [request_of_status]
    cases s.searchStatus id <;> rfl
  case priority =>
    rw [request_of_status]
    cases s.searchStatus id <;> rfl
end

section
/-! SUPPORT. IDLE_LAPSE as a step of its own: when it is due, and what it leaves (O21). -/

namespace Sys2Proof.Machine

variable {s : State} {id : Identity} {r : Record} {p : Profile}

theorem exec_idleLapse (hrun : s.running = true) (id : Identity) : exec (.idleLapse id) s = .next (s.lapseIfDue id) :=
  whileRunning_of_running hrun fun s => s.lapseIfDue id

theorem lapseDue_iff : lapseDue p r = true ↔
    r.state ≠ .lapsed ∧ r.block.idleRose = true ∧ p.idleLimit ≠ 0 ∧ p.idleLimit * 125 ≤ r.idleCount := by
  rw [lapseDue, Bool.and_eq_true, Bool.and_eq_true, Bool.and_eq_true, bne_iff_ne, decide_eq_true_iff, decide_eq_true_iff,
    and_assoc, and_assoc]

/-- The part after the lapse of a record, its release with its grants, and its removal from the search unit (R157). -/
def State.lapse (s : State) (id : Identity) : State :=
  (((s.update id lapseRecord).releaseAll id).cancelSearch id).raise .lapse

theorem lapseIfDue_of_due (h : s.recordOf id = some r) (hdue : lapseDue (s.profileOf r) r = true) :
    s.lapseIfDue id = s.lapse id := by rw [lapseIfDue_of_some h, if_pos hdue, State.lapse]

theorem lapse_records (s : State) (id : Identity) :
    (s.lapse id).records = ((s.update id lapseRecord).releaseAll id).records := cancelSearch_records _ _

theorem recordOf_lapse (hs : s.TableSound) (h : s.recordOf id = some r) :
    (s.lapse id).recordOf id = some (lapseRecord r).emptied := by
  rw [recordOf_congr (lapse_records s id)]
  exact recordOf_releaseAll ((update_rowsKept s id keysKept_lapseRecord).tableSound hs)
    (recordOf_update_self keysKept_lapseRecord.identity h)

/-- The lapse leaves the pool, the others and the part tallies as the release does, with LAPSE in the summary (R157,
R158). -/
theorem lapse_released (hs : s.TableSound) (h : s.recordOf id = some r) :
    Released s { s.lapse id with summary := s.summary } id r := by
  have hrel := update_releaseAll_released hs h (f := lapseRecord) (fun _ => rfl) (fun _ => rfl) rfl
  refine hrel.congr (cancelSearch_free _ _) (cancelSearch_waiting _ _) hrel.summary.symm (cancelSearch_part _ _) ?_
  exact congrArg _ (lapse_records s id)

theorem lapse_summary (hs : s.TableSound) (h : s.recordOf id = some r) : (s.lapse id).summary = s.summary ||| 0x20 := by
  have hrel := update_releaseAll_released hs h (f := lapseRecord) (fun _ => rfl) (fun _ => rfl) rfl
  rw [State.lapse, State.raise_summary, cancelSearch_summary, hrel.summary]
  rfl

/-- The lapsed record leaves its lane and its slot, and nothing else but its release touches the search unit (R99,
R111). -/
theorem lapse_searchDropped (s : State) (id : Identity) : s.SearchDropped (s.lapse id) id :=
  have hP := releaseAll_poolStep (s.update id lapseRecord) id
  cancelSearch_congr id hP.priorityLane hP.ordinaryLane hP.slots

theorem lapse_sameApart (s : State) (id : Identity) : s.SameApart (s.lapse id) :=
  sameApart_trans (update_sameApart s id lapseRecord) <|
    sameApart_trans (releaseAll_poolStep _ id).apart <| sameApart_trans (cancelSearch_sameApart _ id) rfl

end Sys2Proof.Machine

open Sys2Proof Sys2Proof.Machine

/-- Settles O21: where the lapse is not due the step changes nothing, and where it is, it is a release followed by the
removal from the search unit. -/
theorem idleLapseReleases : Obligations.IdleLapseReleases := by
  intro s id r hrun hs h limit
  rw [exec_idleLapse hrun]
  refine ⟨fun hno => congrArg _ ?_, fun hstate hrose hlimit hcount => ⟨s.lapse id, congrArg _ ?_, ?_⟩⟩
  · rw [lapseIfDue_of_some h, if_neg (mt (lapseDue_iff (p := s.profileOf r)).1 hno)]
  · exact lapseIfDue_of_due h (lapseDue_iff.2 ⟨hstate, hrose, hlimit, hcount⟩)
  · obtain ⟨hothers, hgranted, hwaiting, hfree, -, hpart⟩ := lapse_released hs h
    exact ⟨recordOf_lapse hs h, hwaiting, searchStatus_cancelSearch _ id, lapse_searchDropped s id, lapse_summary hs h,
      hothers, hgranted, hfree, lapse_sameApart s id, hpart⟩
end

section
/-! SUPPORT. The judgement of a search: its bands, their scores and peak lags, and the ranked candidates (O24). -/

namespace Sys2Proof.Machine

variable {correlation : List Int}

/-! ## Scores -/

theorem natAbs_le_largestScore {lags : List Int} {c : Int} (hc : c ∈ lags) : c.natAbs ≤ largestScore lags :=
  (le_foldl_max Int.natAbs lags 0).2 c hc

/-- The score of some lags is the magnitude of one of them (R104). -/
theorem exists_natAbs_eq_largestScore {lags : List Int} (h : lags ≠ []) : ∃ c ∈ lags, c.natAbs = largestScore lags := by
  rcases (le_foldl_max_iff Int.natAbs lags 0 (largestScore lags)).1 le_rfl with h0 | ⟨c, hc, hle⟩
  · obtain ⟨c, hc⟩ := List.exists_mem_of_ne_nil lags h
    exact ⟨c, hc, le_antisymm (natAbs_le_largestScore hc) (by omega)⟩
  · exact ⟨c, hc, le_antisymm (natAbs_le_largestScore hc) hle⟩

/-- Where some lags' magnitude first equals their score (R104). -/
def peakIndex (lags : List Int) : Nat := lags.findIdx fun c => c.natAbs == largestScore lags

theorem peakIndex_lt {lags : List Int} (h : lags ≠ []) : peakIndex lags < lags.length := by
  obtain ⟨c, hc, he⟩ := exists_natAbs_eq_largestScore h
  exact List.findIdx_lt_length_of_exists ⟨c, hc, by simpa using he⟩

theorem natAbs_peakIndex {lags : List Int} (h : peakIndex lags < lags.length) :
    (lags[peakIndex lags]).natAbs = largestScore lags :=
  beq_iff_eq.1 (List.findIdx_getElem (p := fun c : Int => c.natAbs == largestScore lags) (w := h))

/-- Before the peak every magnitude is below the score. -/
theorem natAbs_lt_of_lt_peakIndex {lags : List Int} {i : Nat} (hi : i < peakIndex lags) (hlen : i < lags.length) :
    (lags[i]).natAbs < largestScore lags := by
  have hne : (lags[i]).natAbs ≠ largestScore lags := by simpa using List.not_of_lt_findIdx hi
  exact lt_of_le_of_ne (natAbs_le_largestScore (List.getElem_mem hlen)) hne

/-! ## Bands -/

/-- The correlations of the 32 lags of a band (R104). -/
def bandLags (correlation : List Int) (n : Nat) : List Int := (correlation.drop (32 * n)).take 32

theorem bandOf_eq (correlation : List Int) (n : Nat) : bandOf correlation n =
    { number := n, score := largestScore (bandLags correlation n)
      peak := 32 * n + peakIndex (bandLags correlation n) } := rfl

theorem length_bandLags (hlen : correlation.length = 1024) {n : Nat} (hn : n < 32) :
    (bandLags correlation n).length = 32 := by
  rw [bandLags, List.length_take, List.length_drop]
  omega

/-- The lag j of a band is the lag 32·n + j of the search (R104). -/
theorem bandLags_getElem {n i : Nat} (hi : i < (bandLags correlation n).length) :
    (bandLags correlation n)[i] = correlation.getD (32 * n + i) 0 := by
  have hlt : 32 * n + i < correlation.length := by
    rw [bandLags, List.length_take, List.length_drop] at hi
    omega
  rw [List.getD_eq_getElem _ _ hlt]
  simp only [bandLags, List.getElem_take, List.getElem_drop]

theorem bandOf_peak (hlen : correlation.length = 1024) {n : Nat} (hn : n < 32) :
    (bandOf correlation n).peak < 32 * n + 32 ∧
      (correlation.getD (bandOf correlation n).peak 0).natAbs = (bandOf correlation n).score := by
  have hlags := length_bandLags hlen hn
  have hpeak : peakIndex (bandLags correlation n) < (bandLags correlation n).length :=
    peakIndex_lt (List.ne_nil_of_length_pos (by omega))
  rw [bandOf_eq, ← bandLags_getElem hpeak, natAbs_peakIndex]
  exact ⟨by dsimp only; omega, rfl⟩

theorem natAbs_le_score (hlen : correlation.length = 1024) {n j : Nat} (hn : n < 32) (hj : 32 * n ≤ j)
    (hj' : j < 32 * n + 32) : (correlation.getD j 0).natAbs ≤ (bandOf correlation n).score := by
  obtain ⟨i, rfl⟩ := Nat.exists_eq_add_of_le hj
  have hi : i < (bandLags correlation n).length := by rw [length_bandLags hlen hn]; omega
  rw [← bandLags_getElem hi]
  exact natAbs_le_largestScore (List.getElem_mem hi)

/-- The peak lag is the lowest whose magnitude equals the score (R104). -/
theorem natAbs_lt_score {n j : Nat} (hj : 32 * n ≤ j) (hpeak : j < (bandOf correlation n).peak) :
    (correlation.getD j 0).natAbs < (bandOf correlation n).score := by
  obtain ⟨i, rfl⟩ := Nat.exists_eq_add_of_le hj
  have hbefore : i < peakIndex (bandLags correlation n) := Nat.lt_of_add_lt_add_left hpeak
  have hi : i < (bandLags correlation n).length := hbefore.trans_le List.findIdx_le_length
  rw [← bandLags_getElem hi]
  exact natAbs_lt_of_lt_peakIndex hbefore hi

/-! ## The strongest score -/

/-- The strongest score reaches a height only if some correlation does (R104). -/
theorem exists_of_le_strongest {m : Nat} (hm : 0 < m) (h : m ≤ strongest (bandsOf correlation)) :
    ∃ c ∈ correlation, m ≤ c.natAbs := by
  obtain ⟨b, hb, hscore⟩ := ((le_foldl_max_iff Band.score _ 0 m).1 h).resolve_left (by omega)
  obtain ⟨n, -, rfl⟩ := List.mem_map.1 hb
  obtain ⟨c, hc, hle⟩ := ((le_foldl_max_iff Int.natAbs _ 0 m).1 hscore).resolve_left (by omega)
  exact ⟨c, List.mem_of_mem_drop (List.mem_of_mem_take hc), hle⟩

theorem strongest_le_iff (hlen : correlation.length = 1024) {m : Nat} :
    strongest (bandsOf correlation) ≤ m ↔ ∀ j < 1024, (correlation.getD j 0).natAbs ≤ m := by
  constructor
  · intro h j hj
    rw [List.getD_eq_getElem _ _ (hlen ▸ hj)]
    exact (natAbs_le_strongest hlen (List.getElem_mem _)).trans h
  · intro h
    by_contra hlt
    obtain ⟨c, hc, hm⟩ := exists_of_le_strongest (Nat.succ_pos m) (Nat.lt_of_not_le hlt)
    obtain ⟨j, hj, rfl⟩ := List.mem_iff_getElem.1 hc
    have := h j (hlen ▸ hj)
    rw [List.getD_eq_getElem _ _ hj] at this
    omega

/-! ## Candidates -/

theorem mem_candidatesOf (hlen : correlation.length = 1024) {b : Band} : b ∈ candidatesOf correlation ↔
    (∃ n < 32, b = bandOf correlation n) ∧ ∀ j < 1024, (correlation.getD j 0).natAbs ≤ b.score * 8 := by
  have hband : b ∈ bandsOf correlation ↔ ∃ n < 32, b = bandOf correlation n := by
    simp only [bandsOf, List.mem_map, List.mem_range, eq_comm]
  rw [candidatesOf, List.mem_insertionSort, List.mem_filter, decide_eq_true_iff, strongest_le_iff hlen, hband]

theorem ranksBefore_iff {a b : Band} :
    ranksBefore a b = true ↔ b.score < a.score ∨ (a.score = b.score ∧ a.number ≤ b.number) := by
  simp [ranksBefore]

/-- No two candidates are one band (R104). -/
theorem candidatesOf_numbers (correlation : List Int) : (candidatesOf correlation).Pairwise (·.number ≠ ·.number) := by
  have hbands : (bandsOf correlation).Pairwise (·.number ≠ ·.number) :=
    List.pairwise_map.2 (List.nodup_range.imp fun h => h)
  exact ((List.perm_insertionSort _ _).pairwise_iff Ne.symm).2 (hbands.sublist List.filter_sublist)

/-- The candidates stand in the order of R106, no two of them equal in it. -/
theorem candidatesOf_ranked (correlation : List Int) : (candidatesOf correlation).Pairwise fun a b =>
    b.score < a.score ∨ (a.score = b.score ∧ a.number < b.number) := by
  have total : Std.Total fun a b => ranksBefore a b = true :=
    ⟨fun a b => by simp only [ranksBefore_iff]; omega⟩
  have trans : IsTrans Band fun a b => ranksBefore a b = true :=
    ⟨fun a b c => by simp only [ranksBefore_iff]; omega⟩
  have hsorted : (candidatesOf correlation).Pairwise fun a b => ranksBefore a b = true :=
    List.pairwise_insertionSort _ _
  refine (hsorted.and (candidatesOf_numbers correlation)).imp ?_
  rintro a b ⟨hrank, hne⟩
  rw [ranksBefore_iff] at hrank
  omega

end Sys2Proof.Machine

open Sys2Proof Sys2Proof.Machine

/-- Settles O24. -/
theorem candidatesAreRanked : Obligations.CandidatesAreRanked := by
  intro correlation hlen
  refine ⟨fun n hn => ?_, fun b => mem_candidatesOf hlen, candidatesOf_ranked correlation⟩
  obtain ⟨hlt, heq⟩ := bandOf_peak hlen hn
  exact ⟨_, _, rfl, Nat.le_add_right _ _, hlt, heq, fun _ => natAbs_le_score hlen hn, fun _ => natAbs_lt_score⟩
end

section
/-! SUPPORT. The placement of a search, one candidate at a time (O25). -/

namespace Sys2Proof.Machine

variable {placed : List Nat} {peak start w : Nat}

/-- A start whose window shares no lag with a listed window (R107, step 4). -/
abbrev Apart (placed : List Nat) (start : Nat) : Prop := ∀ o ∈ placed, start + 63 < o ∨ o + 63 < start

theorem windowsOverlap_eq_true_iff {o start : Nat} :
    windowsOverlap o start = true ↔ ¬(start + 63 < o ∨ o + 63 < start) := by
  rw [← Bool.not_eq_false, windowsOverlap_eq_false_iff, or_comm]

theorem overlapsListed_iff : overlapsListed placed start = true ↔ ¬Apart placed start := by
  simp only [overlapsListed, List.any_eq_true, windowsOverlap_eq_true_iff, Apart, not_forall, exists_prop]

theorem lowestOverlapped_of_apart (h : Apart placed start) : lowestOverlapped placed start = none := by
  have hnone : placed.filter (fun o => windowsOverlap o start) = [] :=
    List.filter_eq_nil_iff.2 fun o ho hover => windowsOverlap_eq_true_iff.1 hover (h o ho)
  rw [lowestOverlapped, hnone]
  rfl

/-- The lowest listed window that a start overlaps (R107, step 3). -/
theorem lowestOverlapped_eq_some (hw : w ∈ placed) (hover : ¬(start + 63 < w ∨ w + 63 < start))
    (hlow : ∀ o ∈ placed, ¬(start + 63 < o ∨ o + 63 < start) → w ≤ o) : lowestOverlapped placed start = some w := by
  rw [lowestOverlapped, List.min?_eq_some_iff]
  refine ⟨List.mem_filter.2 ⟨hw, windowsOverlap_eq_true_iff.2 hover⟩, fun o ho => ?_⟩
  obtain ⟨hmem, hov⟩ := List.mem_filter.1 ho
  exact hlow o hmem (windowsOverlap_eq_true_iff.1 hov)

/-! ## The start of a candidate's window -/

theorem candidateStart_of_apart (h : Apart placed (min 960 (peak - 16))) :
    candidateStart placed peak = min 960 (peak - 16) := by
  simp only [candidateStart, lowestOverlapped_of_apart h]

/-- A window that overlaps moves behind or before the lowest one it overlaps, within which its peak does not lie (R107,
step 3). -/
theorem candidateStart_of_overlap (hlow : lowestOverlapped placed (min 960 (peak - 16)) = some w)
    (hout : ¬(w ≤ peak ∧ peak ≤ w + 63)) :
    candidateStart placed peak = if w + 63 < peak then min 960 (w + 64) else w - 64 := by
  simp only [candidateStart, hlow]
  split
  · rfl
  · rw [if_pos (by omega)]

/-! ## One candidate -/

theorem placeCandidate_of_within (h : ∃ o ∈ placed, o ≤ peak ∧ peak ≤ o + 63) : placeCandidate placed peak = placed := by
  unfold placeCandidate
  rw [if_pos]
  simpa using h

theorem placeCandidate_of_outside (h : ∀ o ∈ placed, ¬(o ≤ peak ∧ peak ≤ o + 63)) : placeCandidate placed peak =
    if Apart placed (candidateStart placed peak) then placed ++ [candidateStart placed peak] else placed := by
  unfold placeCandidate
  rw [if_neg (by simpa using h)]
  by_cases hapart : Apart placed (candidateStart placed peak)
  · rw [if_pos hapart, if_neg fun hover => overlapsListed_iff.1 hover hapart]
  · rw [if_neg hapart, if_pos (overlapsListed_iff.2 hapart)]

/-- A placement takes the candidates in turn (R107). -/
theorem placementOf_append (limit : Nat) (peaks : List Nat) (peak : Nat) : placementOf limit (peaks ++ [peak]) =
    if limit ≤ (placementOf limit peaks).length then placementOf limit peaks
    else placeCandidate (placementOf limit peaks) peak := List.foldl_append

end Sys2Proof.Machine

open Sys2Proof Sys2Proof.Machine

/-- Settles O25: the steps by the start that R107 gives a candidate's window, and the bounds by what a placement keeps. -/
theorem placementIsSound : Obligations.PlacementIsSound := by
  refine ⟨fun _ _ => rfl, fun _ => rfl, ?step, ?bounds⟩
  case bounds =>
    intro limit peaks
    obtain ⟨⟨hapart, hspan⟩, hlen⟩ := placementOf_sound limit peaks
    exact ⟨hlen, hspan, hapart.imp windowsOverlap_eq_false_iff.1⟩
  case step =>
    intro limit peaks peak placed next free start
    have hnext : next = _ := placementOf_append limit peaks peak
    refine ⟨fun hfull => hnext.trans (if_pos hfull), fun hroom => ?_⟩
    rw [if_neg (Nat.not_le.2 hroom)] at hnext
    refine ⟨fun hin => hnext.trans (placeCandidate_of_within hin), fun hout => ?_⟩
    rw [placeCandidate_of_outside hout] at hnext
    refine ⟨fun hfree => ?_, fun w hw hover hlow => ?_⟩
    · rw [candidateStart_of_apart hfree] at hnext
      exact hnext.trans (if_pos hfree)
    · rw [candidateStart_of_overlap (lowestOverlapped_eq_some hw hover hlow) (hout w hw)] at hnext
      exact ⟨fun hfree => hnext.trans (if_pos hfree), fun hblocked => hnext.trans (if_neg hblocked)⟩
end

section
/-! SUPPORT. The end of a search in the slot that holds it: done, timed out, or neither (O26). -/

namespace Sys2Proof.Machine

variable {s t : State} {id : Identity} {r : Record} {sl : Slot}

/-! ## The rows on a running part -/

theorem exec_searchComplete (hrun : s.running = true) (id : Identity) :
    exec (.searchComplete id) s = .next (s.completeSearch id) :=
  whileRunning_of_running hrun fun s => s.completeSearch id

theorem exec_searchTimeout (hrun : s.running = true) (id : Identity) :
    exec (.searchTimeout id) s = .next (s.timeOutSearch id) :=
  whileRunning_of_running hrun fun s => s.timeOutSearch id

/-! ## The search of a record -/

theorem find_slot_of_mem (hse : s.SearchSound) (hsl : sl ∈ s.slots) (hid : sl.identity = id) :
    s.slots.find? (·.identity == id) = some sl := by
  obtain ⟨x, hx⟩ := Option.ne_none_iff_exists'.1 fun hnone => not_mem_of_find_slot hnone hsl hid
  rw [hx, find_slot_unique hse hx hsl hid]

theorem searchDone_iff : searchDone sl = true ↔ 2048 ≤ sl.qualifying := decide_eq_true_iff

theorem searchExpired_iff : searchExpired sl = true ↔ sl.qualifying < 2048 ∧ 16000 ≤ sl.elapsed := by
  rw [searchExpired, Bool.and_eq_true, Bool.not_eq_true', not_done_iff, decide_eq_true_iff]

theorem completeSearch_of_slot (hse : s.SearchSound) (hr : s.recordOf id = some r) (hsl : sl ∈ s.slots)
    (hid : sl.identity = id) : s.completeSearch id =
      if 2048 ≤ sl.qualifying then ((s.freeSlot id).judgeSearch r sl).arbitrate else s := by
  simp only [State.completeSearch, hr, find_slot_of_mem hse hsl hid, searchDone_iff]

/-- A search that has run out of time, as it ends, before the arbiter acts (R110). -/
def State.timedOut (s : State) (id : Identity) : State :=
  { (s.freeSlot id).update id inconclusiveRecord with
    part := { s.part with inconclusiveSearches := countUp s.part.inconclusiveSearches } }

theorem timeOutSearch_of_slot (hse : s.SearchSound) (hsl : sl ∈ s.slots) (hid : sl.identity = id) :
    s.timeOutSearch id = if sl.qualifying < 2048 ∧ 16000 ≤ sl.elapsed then (s.timedOut id).arbitrate else s := by
  simp only [State.timeOutSearch, find_slot_of_mem hse hsl hid, searchExpired_iff]
  rfl

theorem timeOutSearch_of_expired (hse : s.SearchSound) (hsl : sl ∈ s.slots) (hid : sl.identity = id)
    (hq : sl.qualifying < 2048) (he : 16000 ≤ sl.elapsed) : s.timeOutSearch id = (s.timedOut id).arbitrate := by
  rw [timeOutSearch_of_slot hse hsl hid, if_pos ⟨hq, he⟩]

/-! ## NO_ECHO -/

/-- Where the strongest correlation times 32 is below the reference sum there is no echo (R105). -/
theorem echoPresent_eq_false (hsum : 0 < sl.referenceSum)
    (h : ∀ c ∈ sl.correlation, c.natAbs * 32 < sl.referenceSum) : echoPresent sl = false := by
  refine decide_eq_false fun hle => ?_
  obtain ⟨c, hc, hstrong⟩ := exists_of_le_strongest (m := strongest (bandsOf sl.correlation)) (by omega) le_rfl
  have := h c hc
  omega

/-- A search that ends without echo, before the arbiter acts: the slot freed, the result noted, and a release (R105,
R109). -/
def State.withoutEcho (s : State) (id : Identity) : State :=
  ((s.freeSlot id).update id (noteResult .noEcho)).releaseAll id

theorem completeSearch_of_noEcho (hse : s.SearchSound) (hr : s.recordOf id = some r) (hsl : sl ∈ s.slots)
    (hid : sl.identity = id) (hdone : 2048 ≤ sl.qualifying) (hecho : echoPresent sl = false) :
    s.completeSearch id = (s.withoutEcho id).arbitrate := by
  obtain ⟨-, rfl⟩ := recordOf_some hr
  rw [completeSearch_of_slot hse hr hsl hid, if_pos hdone, State.judgeSearch, if_neg (Bool.eq_false_iff.1 hecho),
    State.withoutEcho]

theorem recordOf_withoutEcho (hs : s.TableSound) (hr : s.recordOf id = some r) :
    (s.withoutEcho id).recordOf id = some (noteResult .noEcho r).emptied :=
  recordOf_releaseAll ((update_rowsKept (s.freeSlot id) id (keysKept_noteResult .noEcho)).tableSound hs)
    (recordOf_update_self (s := s.freeSlot id) (keysKept_noteResult .noEcho).identity hr)

/-- A release reads nothing of the search unit (R123). -/
theorem Released.of_freeSlot (hr : s.recordOf id = some r) (h : Released (s.freeSlot id) t id r) : Released s t id r := by
  have hagree : PoolAgree id (s.returnWindows id) ((s.freeSlot id).returnWindows id) := by
    rw [returnWindows_eq hr, returnWindows_eq (s := s.freeSlot id) hr]
    exact ⟨rfl, rfl, rfl, rfl, rfl⟩
  have hgranted := h.granted
  rw [released_eq (s := s.freeSlot id) hr] at hgranted
  obtain ⟨hfree, hwaiting, hpart, hothers⟩ := hgranted
  obtain ⟨hfree', hwaiting', hpart', hothers'⟩ := hagree.grantAll.grantedAs
  refine ⟨h.others, ?_, h.waiting, h.free, h.summary, h.part⟩
  rw [released_eq hr]
  exact ⟨hfree.trans hfree', hwaiting.trans hwaiting', hpart.trans hpart', hothers.trans hothers'⟩

theorem withoutEcho_released (hs : s.TableSound) (hr : s.recordOf id = some r) :
    Released s (s.withoutEcho id) id r :=
  .of_freeSlot hr (update_releaseAll_released (s := s.freeSlot id) hs hr (f := noteResult .noEcho) (fun _ => rfl)
    (fun _ => rfl) rfl)

/-- The arbiter reads and writes nothing of the pool (R97). -/
theorem Released.arbitrate (h : Released s t id r) : Released s t.arbitrate id r :=
  h.congr (arbitrate_free t) (arbitrate_waiting t) (arbitrate_summary t) (arbitrate_part t)
    (congrArg _ (arbitrate_records t))

theorem withoutEcho_search (s : State) (id : Identity) : (s.withoutEcho id).priorityLane = s.priorityLane ∧
    (s.withoutEcho id).ordinaryLane = s.ordinaryLane ∧ (s.withoutEcho id).slots = (s.freeSlot id).slots :=
  have hP := releaseAll_poolStep ((s.freeSlot id).update id (noteResult .noEcho)) id
  ⟨hP.priorityLane, hP.ordinaryLane, hP.slots⟩

theorem withoutEcho_sameApart (s : State) (id : Identity) : s.SameApart (s.withoutEcho id) :=
  sameApart_trans (t := (s.freeSlot id).update id (noteResult .noEcho)) rfl (releaseAll_poolStep _ id).apart

/-! ## The freed slot -/

/-- Once a record's slot is freed and the arbiter has acted, its search is over and the lanes and slots are those of R97,
whatever else the end of the search touched. -/
theorem slotFreed_arbitrate (hse : s.SearchSound) (hsl : sl ∈ s.slots) (hid : sl.identity = id)
    (hp : t.priorityLane = s.priorityLane) (ho : t.ordinaryLane = s.ordinaryLane)
    (hslots : t.slots = (s.freeSlot id).slots) :
    t.arbitrate.searchStatus id = .noSearch ∧ s.SlotFreed t.arbitrate id := by
  refine ⟨?_, arbitrate_congr (s := s.freeSlot id) hp ho hslots⟩
  rw [searchStatus_eq_noSearch_iff, (arbitrate_searching t).mem_iff, searching_congr (s := s.freeSlot id) hp ho hslots]
  exact not_mem_searching_freeSlot hse hsl hid

end Sys2Proof.Machine

open Sys2Proof Sys2Proof.Machine

/-- Settles O26: a search without echo ends in a release, one that has run out of time in its result alone, and one that
is due for neither goes on. -/
theorem searchEndsWithoutPlacement : Obligations.SearchEndsWithoutPlacement := by
  intro s id r sl hrun hs hse hr hsl hid
  rw [exec_searchComplete hrun, exec_searchTimeout hrun]
  refine ⟨fun hdone hsum hweak => ⟨(s.withoutEcho id).arbitrate, congrArg _ ?complete, ?noEcho⟩,
    fun hq => congrArg _ ?notDone, fun hq he => ⟨(s.timedOut id).arbitrate, congrArg _ ?timeOut, ?timedOut⟩,
    fun hno => congrArg _ ?notExpired⟩
  case complete => exact completeSearch_of_noEcho hse hr hsl hid hdone (echoPresent_eq_false hsum hweak)
  case noEcho =>
    obtain ⟨hothers, hgranted, hwaiting, hfree, hsummary, hpart⟩ := (withoutEcho_released hs hr).arbitrate
    obtain ⟨hp, ho, hslots⟩ := withoutEcho_search s id
    obtain ⟨hstatus, hfreed⟩ := slotFreed_arbitrate hse hsl hid hp ho hslots
    exact ⟨(recordOf_congr (arbitrate_records _) id).trans (recordOf_withoutEcho hs hr), hwaiting, hstatus, hfreed,
      hothers, hgranted, hfree, hsummary, sameApart_trans (withoutEcho_sameApart s id) (arbitrate_sameApart _), hpart⟩
  case notDone => rw [completeSearch_of_slot hse hr hsl hid, if_neg (Nat.not_le.2 hq)]
  case timeOut => exact timeOutSearch_of_expired hse hsl hid hq he
  case timedOut =>
    obtain ⟨hstatus, hfreed⟩ := slotFreed_arbitrate (t := s.timedOut id) hse hsl hid rfl rfl rfl
    refine ⟨?_, hstatus, hfreed, ?_⟩
    · rw [arbitrate_records]
      exact congrArg State.records (update_eq_const hs hr inconclusiveRecord)
    · rw [arbitrate_records]
      exact arbitrate_eq (s.timedOut id)
  case notExpired => rw [timeOutSearch_of_slot hse hsl hid, if_neg (by omega)]
end

section
/-! SUPPORT. The searches that end at a frame, followed from one record: its own search, and the ends of the others
(O12). -/

namespace Sys2Proof.Machine

variable {s t : State} {id j : Identity} {r q : Record} {sl : Slot} {p : Position} {ps : List Position}

/-! ## Who stands in the search unit after an end -/

/-- The end of a search puts no record into the search unit (R109). -/
theorem not_mem_searching_completeSearch (h : id ∉ s.searching) (j : Identity) :
    id ∉ (s.completeSearch j).searching := by
  refine completeSearch_keeps (P := fun u => id ∉ u.searching) (Q := fun u => id ∉ u.searching)
    (fun u v hP hu => ?pool) (fun u i hu hmem => ?free) (fun u hu => ?arbitrate) (fun _ _ _ hu => hu) (fun _ _ _ hu => hu)
    j h h
  case pool => rwa [searching_congr hP.priorityLane hP.ordinaryLane hP.slots]
  case free =>
    rw [mem_searching] at hu hmem
    refine hu (hmem.imp_left ?_)
    rintro ⟨sl, hsl, hi⟩
    exact ⟨sl, (List.mem_filter.1 hsl).1, hi⟩
  case arbitrate => rwa [(arbitrate_searching u).mem_iff]

/-- The slots of other records stay as they are (R96, R109). -/
theorem mem_slots_arbitrate_of_ne (hsl : sl ∈ s.slots) (hne : sl.identity ≠ j) (ht : t.slots = (s.freeSlot j).slots) :
    sl ∈ t.arbitrate.slots := by
  obtain ⟨ids, he⟩ := arbitrate_slots t
  rw [he, ht]
  exact List.mem_append_left _ (List.mem_filter.2 ⟨hsl, by simpa using hne⟩)

theorem mem_slots_completeSearch (hsl : sl ∈ s.slots) (hne : sl.identity ≠ j) : sl ∈ (s.completeSearch j).slots := by
  unfold State.completeSearch
  split
  · split
    · exact mem_slots_arbitrate_of_ne hsl hne (judgeSearch_slots _ _ _)
    · exact hsl
  · exact hsl

theorem mem_slots_timeOutSearch (hsl : sl ∈ s.slots) (hne : sl.identity ≠ j) : sl ∈ (s.timeOutSearch j).slots := by
  unfold State.timeOutSearch
  split
  · split
    · exact mem_slots_arbitrate_of_ne hsl hne rfl
    · exact hsl
  · exact hsl

theorem not_mem_searching_timeOutSearch (h : id ∉ s.searching) (j : Identity) :
    id ∉ (s.timeOutSearch j).searching := by
  unfold State.timeOutSearch
  split
  · split
    · rw [(arbitrate_searching _).mem_iff, mem_searching]
      refine fun hmem => h (mem_searching.2 (hmem.imp_left ?_))
      rintro ⟨sl, hsl, hi⟩
      exact ⟨sl, (List.mem_filter.1 hsl).1, hi⟩
    · exact h
  · exact h

/-! ## A search at the counts that end it -/

/-- A search whose counts are short of those that end it (R103, R110). -/
abbrev Slot.GoesOn (sl : Slot) : Prop := sl.qualifying < 2048 ∧ sl.elapsed < 16000

/-- No end is due where every search of the record goes on. -/
theorem endSearch_of_goesOn (h : ∀ sl ∈ s.slots, sl.identity = id → sl.GoesOn) :
    s.completeSearch id = s ∧ s.timeOutSearch id = s := by
  constructor
  · unfold State.completeSearch
    split
    · rename_i sl _ hfind
      obtain ⟨hsl, hid⟩ := find_slot hfind
      rw [if_neg fun hdone => Nat.not_le.2 (h sl hsl hid).1 (searchDone_iff.1 hdone)]
    · rfl
  · unfold State.timeOutSearch
    split
    · rename_i sl hfind
      obtain ⟨hsl, hid⟩ := find_slot hfind
      rw [if_neg fun hexp => Nat.not_le.2 (h sl hsl hid).2 (searchExpired_iff.1 hexp).2]
    · rfl

theorem endSearchAt_of_goesOn (h : ∀ q, s.recordAt p = some q → ∀ sl ∈ s.slots, sl.identity = q.identity → sl.GoesOn) :
    s.endSearchAt p = s := by
  cases hat : s.recordAt p with
  | none => exact endSearchAt_of_none hat
  | some q =>
    obtain ⟨hcomplete, htimeOut⟩ := endSearch_of_goesOn (h q hat)
    rw [endSearchAt_of_some hat, hcomplete, htimeOut]

theorem foldl_endSearchAt_of_goesOn (h : ∀ sl ∈ s.slots, sl.GoesOn) : ps.foldl State.endSearchAt s = s := by
  induction ps with
  | nil => rfl
  | cons p ps ih => rw [List.foldl_cons, endSearchAt_of_goesOn fun _ _ sl hsl _ => h sl hsl, ih]

theorem goesOn_of_slotsFrom (h : ∀ sl ∈ s.slots, sl.identity ≠ id → sl.GoesOn) (hfrom : SlotsFrom s t)
    (hid : id ∉ t.searching) : ∀ sl ∈ t.slots, sl.GoesOn := by
  intro sl hsl
  rcases hfrom sl hsl with hmem | hfresh
  · exact h sl hmem fun hi => hid (mem_searching.2 (.inl ⟨sl, hsl, hi⟩))
  · rw [hfresh]
    exact ⟨Nat.succ_pos _, Nat.succ_pos _⟩

/-! ## The own end of a search -/

/-- What a record shows of the ends of its searches, and where (R3, R108). -/
def Record.searchKey (r : Record) : Position × SearchResult × Tallies := (r.position, r.lastResult, r.tallies)

/-- A record as the end of the search in its slot leaves what it shows (R105, R109, R110). -/
def Record.searchEnded (sl : Slot) (r : Record) : Record :=
  if searchDone sl then noteResult (if echoPresent sl then .placed else .noEcho) r else inconclusiveRecord r

theorem searchEnded_of_done (h : 2048 ≤ sl.qualifying) (r : Record) :
    r.searchEnded sl = noteResult (if echoPresent sl then .placed else .noEcho) r := if_pos (searchDone_iff.2 h)

theorem searchEnded_of_not_done (h : sl.qualifying < 2048) (r : Record) : r.searchEnded sl = inconclusiveRecord r :=
  if_neg fun hdone => Nat.not_le.2 h (searchDone_iff.1 hdone)

theorem searchEnded_searchKey (h : q.searchKey = r.searchKey) :
    (q.searchEnded sl).searchKey = (r.searchEnded sl).searchKey := by
  obtain ⟨hposition, -, htallies⟩ : q.position = r.position ∧ _ ∧ q.tallies = r.tallies := by
    simpa only [Record.searchKey, Prod.mk.injEq] using h
  unfold Record.searchEnded Record.searchKey
  split
  · simp only [noteResult, hposition, htallies]
  · simp only [inconclusiveRecord, hposition, htallies]

/-- A search that is done ends with PLACED or NO_ECHO in its record and nowhere in the search unit (R103 to R105, R109). -/
theorem completeSearch_ends (hs : s.TableSound) (hse : s.SearchSound) (hr : s.recordOf id = some r) (hsl : sl ∈ s.slots)
    (hid : sl.identity = id) (hdone : 2048 ≤ sl.qualifying) :
    (∃ q, (s.completeSearch id).recordOf id = some q ∧ q.searchKey = (r.searchEnded sl).searchKey) ∧
      id ∉ (s.completeSearch id).searching := by
  obtain ⟨-, rfl⟩ := recordOf_some hr
  rw [searchEnded_of_done hdone]
  by_cases hecho : echoPresent sl = true
  · have hinstall := install_eq_installed hs hr (searchPlacement (s.profileOf r).windowLimit sl.correlation)
    rw [completeSearch_of_placed hse hr hsl hid hdone hecho, hinstall, if_pos hecho]
    have hP := grantAll_poolStep (s.installed r (searchPlacement (s.profileOf r).windowLimit sl.correlation))
    exact ⟨⟨Record.placedRecord _ _ r, (recordOf_congr (arbitrate_records _) _).trans (recordOf_installed_granted hs hr _),
      rfl⟩, searchStatus_eq_noSearch_iff.1
      (slotFreed_arbitrate hse hsl hid hP.priorityLane hP.ordinaryLane hP.slots).1⟩
  · have hnone := Bool.eq_false_iff.2 hecho
    rw [completeSearch_of_noEcho hse hr hsl hid hdone hnone, if_neg hecho]
    obtain ⟨hp, ho, hslots⟩ := withoutEcho_search s r.identity
    refine ⟨⟨_, (recordOf_congr (arbitrate_records _) _).trans (recordOf_withoutEcho hs hr), rfl⟩, ?_⟩
    exact searchStatus_eq_noSearch_iff.1 (slotFreed_arbitrate hse hsl hid hp ho hslots).1

/-- A search that has run out of time ends INCONCLUSIVE, and stands nowhere in the search unit (R110). -/
theorem timeOutSearch_ends (hse : s.SearchSound) (hr : s.recordOf id = some r) (hsl : sl ∈ s.slots)
    (hid : sl.identity = id) (hq : sl.qualifying < 2048) (he : 16000 ≤ sl.elapsed) :
    (∃ q, (s.timeOutSearch id).recordOf id = some q ∧ q.searchKey = (r.searchEnded sl).searchKey) ∧
      id ∉ (s.timeOutSearch id).searching := by
  rw [timeOutSearch_of_expired hse hsl hid hq he]
  refine ⟨⟨inconclusiveRecord r, ?_, ?_⟩, searchStatus_eq_noSearch_iff.1
    (slotFreed_arbitrate (t := s.timedOut id) hse hsl hid rfl rfl rfl).1⟩
  · rw [recordOf_congr (arbitrate_records _)]
    exact recordOf_update_self (s := s.freeSlot id) (fun _ => rfl) hr
  · rw [searchEnded_of_not_done hq]

theorem completeSearch_of_not_done (hse : s.SearchSound) (hr : s.recordOf id = some r) (hsl : sl ∈ s.slots)
    (hid : sl.identity = id) (hq : sl.qualifying < 2048) : s.completeSearch id = s := by
  rw [completeSearch_of_slot hse hr hsl hid, if_neg (Nat.not_le.2 hq)]

/-- Where a completion is due the time-out after it is none. -/
theorem endSearch_of_done (hs : s.TableSound) (hse : s.SearchSound) (hr : s.recordOf id = some r) (hsl : sl ∈ s.slots)
    (hid : sl.identity = id) (hdone : 2048 ≤ sl.qualifying) :
    (s.completeSearch id).timeOutSearch id = s.completeSearch id :=
  (endSearch_of_not_searching (completeSearch_ends hs hse hr hsl hid hdone).2).2

/-- A search that is due ends, at its own position, with its result in the record (R103, R110). -/
theorem endSearch_ends (hs : s.TableSound) (hse : s.SearchSound) (hr : s.recordOf id = some r) (hsl : sl ∈ s.slots)
    (hid : sl.identity = id) (hdue : ¬sl.GoesOn) :
    (∃ q, ((s.completeSearch id).timeOutSearch id).recordOf id = some q ∧
      q.searchKey = (r.searchEnded sl).searchKey) ∧ id ∉ ((s.completeSearch id).timeOutSearch id).searching := by
  by_cases hdone : 2048 ≤ sl.qualifying
  · rw [endSearch_of_done hs hse hr hsl hid hdone]
    exact completeSearch_ends hs hse hr hsl hid hdone
  · have hq := Nat.not_le.1 hdone
    rw [completeSearch_of_not_done hse hr hsl hid hq]
    exact timeOutSearch_ends hse hr hsl hid hq (Nat.not_lt.1 fun he => hdue ⟨hq, he⟩)

/-! ## One record through the ends of a frame -/

/-- A part in which a record still shows the ends of its searches as given. -/
structure SearchShown (r : Record) (s : State) : Prop where
  table : s.TableSound
  search : s.SearchSound
  own : ∃ q, s.recordOf r.identity = some q ∧ q.searchKey = r.searchKey

theorem SearchShown.identity_ne (h : SearchShown r s) (hp : p ≠ r.position) (hat : s.recordAt p = some q) :
    q.identity ≠ r.identity := by
  intro hid
  obtain ⟨y, hy, hkey⟩ := h.own
  obtain ⟨hq, hqp⟩ := recordAt_some hat
  have hqy := eq_of_identity_eq h.table hq (recordOf_some hy).1 (hid.trans (recordOf_some hy).2.symm)
  exact hp (hqp.symm.trans (hqy ▸ congrArg Prod.fst hkey))

theorem SearchShown.recordAt (h : SearchShown r s) : ∃ q, s.recordAt r.position = some q ∧ q.identity = r.identity := by
  obtain ⟨y, hy, hkey⟩ := h.own
  obtain ⟨hmem, hid⟩ := recordOf_some hy
  exact ⟨y, (recordAt_eq_some_iff h.table).2 ⟨hmem, congrArg Prod.fst hkey⟩, hid⟩

/-- The end of another record's search changes at most windows that the record waits for (R124, R125). -/
theorem SearchShown.other (h : SearchShown r s) (hne : r.identity ≠ j) :
    SearchShown r ((s.completeSearch j).timeOutSearch j) := by
  have hcomplete : TableMove True s (s.completeSearch j) := .complete j
  have htimeOut : TableMove True _ ((s.completeSearch j).timeOutSearch j) := .timeOut j
  have htable := hcomplete.tableSound trivial h.table
  have hsearch := hcomplete.searchSound trivial h.table h.search
  obtain ⟨q, hq, hkey⟩ := h.own
  obtain ⟨k, hk⟩ := recordOf_completeSearch_other h.table hne hq
  exact ⟨htimeOut.tableSound trivial htable, htimeOut.searchSound trivial htable hsearch,
    q.granted k, (recordOf_timeOutSearch_other _ hne).trans hk, hkey⟩

/-- The record's search still runs in its slot. -/
structure SearchRuns (r : Record) (sl : Slot) (s : State) : Prop extends SearchShown r s where
  slot : sl ∈ s.slots
  named : sl.identity = r.identity

/-- The record stands nowhere in the search unit any more. -/
structure SearchOver (r : Record) (s : State) : Prop extends SearchShown r s where
  absent : r.identity ∉ s.searching

theorem SearchRuns.endSearchAt_other (h : SearchRuns r sl s) (hp : p ≠ r.position) :
    SearchRuns r sl (s.endSearchAt p) := by
  cases hat : s.recordAt p with
  | none => rwa [endSearchAt_of_none hat]
  | some q =>
    have hne := (h.identity_ne hp hat).symm
    have hne' : sl.identity ≠ q.identity := h.named ▸ hne
    rw [endSearchAt_of_some hat]
    exact ⟨h.other hne, mem_slots_timeOutSearch (mem_slots_completeSearch h.slot hne') hne', h.named⟩

theorem SearchOver.endSearchAt (h : SearchOver r s) (p : Position) : SearchOver r (s.endSearchAt p) := by
  cases hat : s.recordAt p with
  | none => rwa [endSearchAt_of_none hat]
  | some q =>
    rw [endSearchAt_of_some hat]
    by_cases hid : q.identity = r.identity
    · obtain ⟨hcomplete, htimeOut⟩ := endSearch_of_not_searching h.absent
      rwa [hid, hcomplete, htimeOut]
    · exact ⟨h.other (Ne.symm hid), not_mem_searching_timeOutSearch (not_mem_searching_completeSearch h.absent _) _⟩

theorem SearchOver.foldl (h : SearchOver r s) : SearchOver r (ps.foldl State.endSearchAt s) := by
  induction ps generalizing s with
  | nil => exact h
  | cons p ps ih => exact ih (h.endSearchAt p)

theorem SearchRuns.endSearchAt_own (h : SearchRuns r sl s) :
    s.endSearchAt r.position = (s.completeSearch r.identity).timeOutSearch r.identity := by
  obtain ⟨q, hat, hid⟩ := h.recordAt
  rw [endSearchAt_of_some hat, hid]

theorem searchEnded_identity (sl : Slot) (r : Record) : (r.searchEnded sl).identity = r.identity := by
  unfold Record.searchEnded
  split <;> rfl

/-- A search that is due ends at its record's position (R103, R108, R110). -/
theorem SearchRuns.ends (h : SearchRuns r sl s) (hdue : ¬sl.GoesOn) :
    SearchOver (r.searchEnded sl) (s.endSearchAt r.position) := by
  obtain ⟨y, hy, hkey⟩ := h.own
  obtain ⟨⟨q, hq, hqkey⟩, hover⟩ := endSearch_ends h.table h.search hy h.slot h.named hdue
  have hcomplete : TableMove True s (s.completeSearch r.identity) := .complete r.identity
  have htimeOut : TableMove True _ ((s.completeSearch r.identity).timeOutSearch r.identity) := .timeOut r.identity
  have htable := hcomplete.tableSound trivial h.table
  have hsearch := hcomplete.searchSound trivial h.table h.search
  rw [h.endSearchAt_own]
  refine ⟨⟨htimeOut.tableSound trivial htable, htimeOut.searchSound trivial htable hsearch, q, ?_, ?_⟩, ?_⟩
  · rw [searchEnded_identity, hq]
  · exact hqkey.trans (searchEnded_searchKey hkey)
  · rwa [searchEnded_identity]

theorem SearchRuns.endSearchAt (h : SearchRuns r sl s) (hon : sl.GoesOn) (p : Position) :
    SearchRuns r sl (s.endSearchAt p) := by
  by_cases hp : p = r.position
  · have hown : ∀ x ∈ s.slots, x.identity = r.identity → x.GoesOn := fun x hx hi => by
      rw [find_slot_unique h.search (find_slot_of_mem h.search h.slot h.named) hx hi]
      exact hon
    obtain ⟨hcomplete, htimeOut⟩ := endSearch_of_goesOn hown
    rwa [hp, h.endSearchAt_own, hcomplete, htimeOut]
  · exact h.endSearchAt_other hp

theorem SearchRuns.foldl_goesOn (h : SearchRuns r sl s) (hon : sl.GoesOn) :
    SearchRuns r sl (ps.foldl State.endSearchAt s) := by
  induction ps generalizing s with
  | nil => exact h
  | cons p ps ih => exact ih (h.endSearchAt hon p)

theorem SearchRuns.foldl_ends (h : SearchRuns r sl s) (hdue : ¬sl.GoesOn) (hp : r.position ∈ ps) :
    SearchOver (r.searchEnded sl) (ps.foldl State.endSearchAt s) := by
  induction ps generalizing s with
  | nil => cases hp
  | cons p ps ih =>
    rw [List.foldl_cons]
    by_cases hpr : p = r.position
    · rw [hpr]
      exact (h.ends hdue).foldl
    · exact ih (h.endSearchAt_other hpr) ((List.mem_cons.1 hp).resolve_left (Ne.symm hpr))

/-! ## A search that ends alone -/

/-- Where every other search goes on, a frame ends the one search at its position, and no other (R108). -/
theorem SearchRuns.foldl_alone (h : SearchRuns r sl s) (hdue : ¬sl.GoesOn)
    (hothers : ∀ x ∈ s.slots, x.identity ≠ r.identity → x.GoesOn) (hp : r.position ∈ ps) :
    ps.foldl State.endSearchAt s = (s.completeSearch r.identity).timeOutSearch r.identity := by
  induction ps with
  | nil => cases hp
  | cons p ps ih =>
    rw [List.foldl_cons]
    by_cases hpr : p = r.position
    · have hover := (h.ends hdue).absent
      rw [searchEnded_identity, h.endSearchAt_own] at hover
      have hfrom : SlotsFrom s ((s.completeSearch r.identity).timeOutSearch r.identity) := fun x hx =>
        (timeOutSearch_slotsFrom _ _ x hx).elim (completeSearch_slotsFrom s _ x) .inr
      rw [hpr, h.endSearchAt_own, foldl_endSearchAt_of_goesOn (goesOn_of_slotsFrom hothers hfrom hover)]
    · rw [endSearchAt_of_goesOn fun q hat x hx hi => hothers x hx (hi ▸ h.identity_ne hpr hat)]
      exact ih ((List.mem_cons.1 hp).resolve_left (Ne.symm hpr))

end Sys2Proof.Machine
end

section
/-! SUPPORT. A frame as one running search meets it: its slot accumulates, and ends if it is due (O12). -/

namespace Sys2Proof.Machine

variable {s u : State} {r q : Record} {sl : Slot} {tin xin : List Sample}

/-! ## Accumulation -/

theorem accumulateSlot_of_far (sl : Slot) (y : Sample) (history : List Sample) : accumulateSlot sl y history .far =
    { sl with
      correlation := List.zipWith (fun c x => c + shiftRight8 y * shiftRight8 x) sl.correlation history
      referenceSum := sl.referenceSum + (shiftRight8 (lag history 0)).natAbs ^ 2
      qualifying := sl.qualifying + 1
      elapsed := sl.elapsed + 1 } := if_pos rfl

theorem accumulateSlot_of_not_far {talk : TalkState} (h : talk ≠ .far) (sl : Slot) (y : Sample) (history : List Sample) :
    accumulateSlot sl y history talk = { sl with elapsed := sl.elapsed + 1 } := if_neg h

/-- Every frame counts, qualifying or not (R102). -/
theorem accumulateSlot_elapsed (sl : Slot) (y : Sample) (history : List Sample) (talk : TalkState) :
    (accumulateSlot sl y history talk).elapsed = sl.elapsed + 1 := by
  by_cases h : talk = .far
  · rw [h, accumulateSlot_of_far]
  · rw [accumulateSlot_of_not_far h]

theorem natAbs_sq_eq_toNat (z : Int) : z.natAbs ^ 2 = (z ^ 2).toNat := by
  rw [← Int.natAbs_sq, ← Nat.cast_pow, Int.toNat_natCast]

/-- Each accumulator takes in the product of its lag (R101). -/
theorem accumulateSlot_correlation {history : List Sample} (hsl : sl.correlation.length = 1024)
    (hh : history.length = 1024) (y : Sample) {j : Nat} (hj : j < 1024) :
    (accumulateSlot sl y history .far).correlation.getD j 0 =
      sl.correlation.getD j 0 + y.toInt / 256 * ((earlier history j).toInt / 256) := by
  have hzip : j < (accumulateSlot sl y history .far).correlation.length := by
    rwa [accumulateSlot_length sl y .far hsl hh]
  rw [List.getD_eq_getElem _ _ hzip, List.getD_eq_getElem _ _ (hsl ▸ hj), earlier, List.getD_eq_getElem _ _ (hh ▸ hj)]
  simp only [accumulateSlot_of_far, List.getElem_zipWith, shiftRight8]

/-! ## The frame work of the record -/

/-- A record that searches is not LAPSED (R95). -/
theorem ne_lapsed_of_slot (hs : s.TableSound) (hse : s.SearchSound) (hsl : sl ∈ s.slots)
    (hr : s.recordOf sl.identity = some r) : r.state ≠ .lapsed := by
  obtain ⟨q, hq, hcancels, hid⟩ := mem_cancelling.1 (hse.2.2.1 (mem_searching.2 (.inl ⟨sl, hsl, rfl⟩)))
  obtain ⟨hmem, hrid⟩ := recordOf_some hr
  rw [eq_of_identity_eq hs hq hmem (hid.trans hrid.symm)] at hcancels
  intro hlapsed
  rw [hlapsed] at hcancels
  cases hcancels

theorem framed_history (h : r.state ≠ .lapsed) :
    (s.framed tin xin r).history = historyAt s r (timeslotOf tin r.position) := by
  rw [framed_of_live h, historyAt_eq]
  rfl

theorem historyAt_length (s : State) (tin : Sample) (h : r.history.length = 1024) : (historyAt s r tin).length = 1024 := by
  rw [historyAt, List.length_take, List.length_cons, h]
  rfl

theorem framed_tallies (s : State) (tin xin : List Sample) (r : Record) :
    (s.framed tin xin r).tallies = r.tallies := by rw [framed_eq]

/-- The slot of a record as the frame leaves it before any search ends (R101, R102). -/
def State.accumulated (s : State) (tin xin : List Sample) (r : Record) (sl : Slot) : Slot :=
  accumulateSlot sl (sampleAt xin r.position) (s.framed tin xin r).history (s.framed tin xin r).talk

theorem mem_worked_slots (hs : s.TableSound) (hsl : sl ∈ s.slots) (hr : s.recordOf sl.identity = some r) :
    s.accumulated tin xin r sl ∈ (s.worked tin xin).slots := by
  obtain ⟨hmem, hid⟩ := recordOf_some hr
  have hframed : (s.advancePhase.workFrame tin xin).recordOf sl.identity = some (s.framed tin xin r) :=
    hid ▸ recordOf_worked hs hmem
  refine List.mem_map.2 ⟨sl, hsl, ?_⟩
  simp only [hframed, framed_position, State.accumulated]

/-- The frame work keeps the table and the search unit sound (R1, R95). -/
theorem worked_sound (hs : s.TableSound) (hse : s.SearchSound) :
    (s.worked tin xin).TableSound ∧ (s.worked tin xin).SearchSound := by
  have hm : Moves True s.advancePhase (s.advancePhase.workFrame tin xin) :=
    workFrame_moves (s := s.advancePhase) (fun _ => hs) tin xin
  obtain ⟨htable, hsearch⟩ := hm.keep (P := fun u => u.TableSound ∧ u.SearchSound)
    (fun _ _ hm ⟨ht, hse⟩ => ⟨hm.tableSound trivial ht, hm.searchSound trivial ht hse⟩) ⟨hs, hse⟩
  exact ⟨htable, accumulateSearches_searchSound xin hsearch⟩

/-- After the frame work the search runs, with what it has accumulated, for the record that the work has left. -/
theorem worked_searchRuns (hs : s.TableSound) (hse : s.SearchSound) (hsl : sl ∈ s.slots)
    (hr : s.recordOf sl.identity = some r) :
    SearchRuns (s.framed tin xin r) (s.accumulated tin xin r sl) (s.worked tin xin) := by
  obtain ⟨hmem, hid⟩ := recordOf_some hr
  obtain ⟨htable, hsearch⟩ := worked_sound (tin := tin) (xin := xin) hs hse
  refine ⟨⟨htable, hsearch, s.framed tin xin r, ?_, rfl⟩, mem_worked_slots hs hsl hr, ?_⟩
  · rw [framed_identity]
    exact recordOf_worked hs hmem
  · rw [State.accumulated, accumulateSlot_identity, framed_identity, hid]

/-! ## The ends of the frame -/

theorem SearchRuns.endSearches_goesOn (h : SearchRuns r sl u) (hon : sl.GoesOn) : sl ∈ u.endSearches.slots :=
  (h.foldl_goesOn (ps := allPositions) hon).slot

theorem SearchRuns.endSearches_ends (h : SearchRuns r sl u) (hdue : ¬sl.GoesOn) :
    SearchOver (r.searchEnded sl) u.endSearches :=
  h.foldl_ends (ps := allPositions) hdue (List.mem_finRange _)

/-- What the record shows after the frame in which its search ends (R105, R109, R110). -/
theorem SearchRuns.endSearches_shown (h : SearchRuns r sl u) (hdue : ¬sl.GoesOn)
    (hq : u.endSearches.recordOf r.identity = some q) :
    q.lastResult = (r.searchEnded sl).lastResult ∧ q.tallies = (r.searchEnded sl).tallies ∧
      u.endSearches.searchStatus r.identity = .noSearch := by
  obtain ⟨⟨-, -, y, hy, hkey⟩, habsent⟩ := h.endSearches_ends hdue
  rw [searchEnded_identity] at hy habsent
  obtain rfl : y = q := Option.some.inj (hy.symm.trans hq)
  obtain ⟨-, hresult, htallies⟩ : _ ∧ y.lastResult = _ ∧ y.tallies = _ := by
    simpa only [Record.searchKey, Prod.mk.injEq] using hkey
  exact ⟨hresult, htallies, searchStatus_eq_noSearch_iff.2 habsent⟩

/-- Where the other searches go on, the frame's ends are those of one row, or none (R103, R108, R110). -/
theorem SearchRuns.endSearches_alone (h : SearchRuns r sl u)
    (hothers : ∀ x ∈ u.slots, x.identity ≠ r.identity → x.GoesOn) :
    (sl.GoesOn → u.endSearches = u) ∧ (2048 ≤ sl.qualifying → u.completeSearch r.identity = u.endSearches) ∧
      (sl.qualifying < 2048 → 16000 ≤ sl.elapsed → u.timeOutSearch r.identity = u.endSearches) := by
  obtain ⟨y, hy, -⟩ := h.own
  have hends (hdue : ¬sl.GoesOn) :
      u.endSearches = (u.completeSearch r.identity).timeOutSearch r.identity :=
    h.foldl_alone (ps := allPositions) hdue hothers (List.mem_finRange _)
  refine ⟨fun hon => endSearches_eq_self fun x hx => ?_, fun hdone => ?_, fun hq he => ?_⟩
  · by_cases hx' : x.identity = r.identity
    · rw [find_slot_unique h.search (find_slot_of_mem h.search h.slot h.named) hx hx']
      exact hon
    · exact hothers x hx hx'
  · rw [hends fun hon => Nat.not_le.2 hon.1 hdone, endSearch_of_done h.table h.search hy h.slot h.named hdone]
  · rw [hends fun hon => Nat.not_le.2 hon.2 he, completeSearch_of_not_done h.search hy h.slot h.named hq]

end Sys2Proof.Machine

open Sys2Proof Sys2Proof.Machine

/-- Settles O12: the frame work leaves the search running with what it has accumulated; then the ends of the frame are
followed from its record. -/
theorem frameSearchSlot : Obligations.FrameSearchSlot := by
  intro s tin xin sl r hrun hdue hs hse hsl hr hlen hhist x y
  obtain ⟨hmem, hid⟩ := recordOf_some hr
  have hhistory : (s.framed tin xin r).history = x := framed_history (ne_lapsed_of_slot hs hse hsl hr)
  have hx : x.length = 1024 := historyAt_length s _ hhist
  have hruns : SearchRuns (s.framed tin xin r) (s.accumulated tin xin r sl) (s.worked tin xin) :=
    worked_searchRuns hs hse hsl hr
  obtain ⟨q, hq, hchange⟩ := recordOf_endSearches (recordOf_worked (tin := tin) (xin := xin) hs hmem)
  have htalk : q.talk = (s.framed tin xin r).talk := by rw [hchange]
  have hshown := fun hend => hruns.endSearches_shown hend ((framed_identity s tin xin r).symm ▸ hq)
  have halone := hruns.endSearches_alone
  have hslot : s.accumulated tin xin r sl = accumulateSlot sl (timeslotOf xin r.position) x q.talk := by
    rw [htalk, ← hhistory]
    rfl
  rw [framed_identity, hid] at hshown halone
  rw [hid] at hq
  rw [hslot] at hruns hshown halone
  refine ⟨s.worked tin xin, (s.worked tin xin).endSearches, exec_frameSync_of_not_due hrun hdue tin xin, rfl,
    worked_records s tin xin, worked_slots s tin xin, ?fold, q, _, hq, hruns.slot, accumulateSlot_identity _ _ _ _,
    accumulateSlot_elapsed _ _ _ _, accumulateSlot_length _ _ _ hlen hx, fun hfar => ?far,
    fun hno => accumulateSlot_of_not_far hno _ _ _, fun hq he => hruns.endSearches_goesOn ⟨hq, he⟩,
    fun hdone => ?done, fun hq he => ?expired, fun hothers => ?alone⟩
  case fold =>
    rw [endSearches_eq_foldl]
    refine congrArg (fun f => List.foldl f (s.worked tin xin) allPositions) (funext fun v => funext fun p => ?_)
    unfold State.endSearchAt
    cases v.recordAt p <;> rfl
  case far =>
    rw [hfar]
    refine ⟨by rw [accumulateSlot_of_far], ?_, fun j hj => accumulateSlot_correlation hlen hx _ hj⟩
    rw [accumulateSlot_of_far, natAbs_sq_eq_toNat]
    rfl
  case done =>
    obtain ⟨hresult, htallies, hstatus⟩ := hshown fun hon => Nat.not_le.2 hon.1 hdone
    rw [searchEnded_of_done hdone] at hresult htallies
    refine ⟨?_, ?_, hstatus⟩
    · rw [hresult, noteResult]
      split
      · exact .inl rfl
      · exact .inr rfl
    · rw [htallies, noteResult, framed_tallies]
      rfl
  case expired =>
    obtain ⟨hresult, htallies, hstatus⟩ := hshown fun hon => Nat.not_le.2 hon.2 he
    rw [searchEnded_of_not_done hq] at hresult htallies
    exact ⟨hresult, htallies.trans (framed_tallies s tin xin r), hstatus⟩
  case alone =>
    have hrunning : (s.worked tin xin).running = true := hrun
    obtain ⟨hnone, hcomplete, htimeOut⟩ := halone hothers
    exact ⟨fun hq he => hnone ⟨hq, he⟩,
      fun hdone => (exec_searchComplete hrunning _).trans (congrArg _ (hcomplete hdone)),
      fun hq he => (exec_searchTimeout hrunning _).trans (congrArg _ (htimeOut hq he))⟩
end

section
/-! SUPPORT. The conditions on the pool through the operations on it: the windows counted, and the waiting list against
what the records lack (O58). -/

namespace Sys2Proof.Machine

variable {s t u : State} {id : Identity} {r x y : Record}

/-! ## The conditions, and what keeps them -/

/-- A record of the table lacks an offset: its unplaced list is present (R4). -/
def State.Lacks (s : State) (id : Identity) : Prop := ∃ r ∈ s.records, r.identity = id ∧ r.unplaced ≠ []

/-- The waiting list names, once each, exactly the records that lack an offset: what R119 says of it whether or not a
window is free, and so between a release and the grants that follow it. -/
structure State.WaitersSound (s : State) : Prop where
  once : s.waiting.Nodup
  lacking : ∀ id, id ∈ s.waiting ↔ s.Lacks id

theorem waitingSound_iff : s.WaitingSound ↔ s.WaitersSound ∧ (s.free = 0 ∨ s.waiting = []) := by
  have lacks (id : Identity) : s.Lacks id ↔ id ∈ (s.records.filter fun r => r.unplaced ≠ []).map (·.identity) := by
    simp only [State.Lacks, List.mem_map, List.mem_filter, decide_eq_true_eq]
    exact exists_congr fun r => by tauto
  refine ⟨fun ⟨honce, hnamed, hall, hend⟩ => ⟨⟨honce, fun id => ⟨fun h => (lacks id).2 (hnamed h), ?_⟩⟩, hend⟩,
    fun ⟨h, hend⟩ => ⟨h.once, fun id hid => (lacks id).1 ((h.lacking id).1 hid),
      fun r hr hu => (h.lacking _).2 ⟨r, hr, rfl, hu⟩, hend⟩⟩
  rintro ⟨r, hr, rfl, hu⟩
  exact hall r hr hu

/-- A change of the pool in which no window is lost or made, and after which the waiting list still names the records that
lack an offset. Windows may be free after it while records wait. -/
structure PoolBalanced (s t : State) : Prop where
  windows : t.free + t.heldWindows = s.free + s.heldWindows
  waiters : s.WaitersSound → t.WaitersSound

/-- What every step does to the conditions on the pool (R118, R119). -/
structure PoolKept (s t : State) : Prop where
  pool : s.PoolSound → t.PoolSound
  waiting : s.WaitingSound → t.WaitingSound

theorem PoolBalanced.refl (s : State) : PoolBalanced s s := ⟨rfl, fun h => h⟩

theorem PoolBalanced.trans (h : PoolBalanced s t) (k : PoolBalanced t u) : PoolBalanced s u :=
  ⟨k.windows.trans h.windows, fun hs => k.waiters (h.waiters hs)⟩

theorem PoolKept.refl (s : State) : PoolKept s s := ⟨fun h => h, fun h => h⟩

theorem PoolKept.trans (h : PoolKept s t) (k : PoolKept t u) : PoolKept s u :=
  ⟨fun hs => k.pool (h.pool hs), fun hs => k.waiting (h.waiting hs)⟩

/-- A balanced change that leaves no window free while a record waits. -/
theorem PoolBalanced.kept (h : PoolBalanced s t) (hend : s.WaitingSound → t.free = 0 ∨ t.waiting = []) : PoolKept s t where
  pool hs := h.windows.trans hs
  waiting hs := waitingSound_iff.2 ⟨h.waiters (waitingSound_iff.1 hs).1, hend hs⟩

/-- A balanced change that touches neither the free count nor the waiting list. -/
theorem PoolBalanced.kept_of_eq (h : PoolBalanced s t) (hf : t.free = s.free) (hw : t.waiting = s.waiting) : PoolKept s t :=
  h.kept fun hs => by rw [hf, hw]; exact (waitingSound_iff.1 hs).2

/-! ## Changes that the pool does not see, and changes of one record -/

theorem heldWindows_eq (s : State) : s.heldWindows = ((s.records.map Record.poolKey).map fun k => k.2.1.length).sum := by
  simp [State.heldWindows, Record.poolKey, Function.comp_def]

theorem lacks_iff : s.Lacks id ↔ ∃ k ∈ s.records.map Record.poolKey, k.1 = id ∧ k.2.2 ≠ [] := by
  simp [State.Lacks, Record.poolKey]

/-- The conditions on the pool read the free count, the waiting list, and the records as the pool sees them. -/
theorem PoolBalanced.of_keys (hf : t.free = s.free) (hw : t.waiting = s.waiting)
    (hr : t.records.map Record.poolKey = s.records.map Record.poolKey) : PoolBalanced s t where
  windows := by rw [heldWindows_eq, heldWindows_eq, hr, hf]
  waiters h := ⟨hw ▸ h.once, fun id => by rw [hw, h.lacking, lacks_iff, lacks_iff, hr]⟩

theorem PoolKept.of_keys (hf : t.free = s.free) (hw : t.waiting = s.waiting)
    (hr : t.records.map Record.poolKey = s.records.map Record.poolKey) : PoolKept s t :=
  (PoolBalanced.of_keys hf hw hr).kept_of_eq hf hw

theorem PoolSame.balanced (h : PoolSame s t) : PoolBalanced s t := .of_keys h.free h.waiting h.records

theorem PoolSame.kept (h : PoolSame s t) : PoolKept s t := .of_keys h.free h.waiting h.records

/-- Records without windows and unplaced offsets come and go unseen by the pool. -/
theorem PoolKept.of_table {p : Record → Bool} {rs : List Record} (hf : t.free = s.free) (hw : t.waiting = s.waiting)
    (hr : t.records = s.records.filter p ++ rs)
    (hgone : ∀ q ∈ s.records, p q = false → q.held = [] ∧ q.unplaced = [])
    (hcome : ∀ q ∈ rs, q.held = [] ∧ q.unplaced = []) : PoolKept s t := by
  refine PoolBalanced.kept_of_eq ⟨?_, fun h => ⟨hw ▸ h.once, fun id => ?_⟩⟩ hf hw
  · have hkept : ((s.records.filter p).map fun r => r.held.length).sum = s.heldWindows := by
      unfold State.heldWindows
      generalize s.records = qs at hgone
      induction qs with
      | nil => rfl
      | cons q qs ih =>
        have ih := ih fun x hx => hgone x (List.mem_cons_of_mem _ hx)
        cases hq : p q with
        | true => simp [hq, ih]
        | false => simp [hq, ih, (hgone q List.mem_cons_self hq).1]
    have hnew : (rs.map fun r => r.held.length).sum = 0 :=
      List.sum_eq_zero fun n hn => by
        obtain ⟨q, hq, rfl⟩ := List.mem_map.1 hn
        simp [(hcome q hq).1]
    have hheld : t.heldWindows = s.heldWindows := by
      rw [State.heldWindows, hr, List.map_append, List.sum_append, hkept, hnew, Nat.add_zero]
    rw [hf, hheld]
  · rw [hw, h.lacking]
    constructor
    · rintro ⟨q, hq, hi, hu⟩
      refine ⟨q, hr ▸ List.mem_append_left _ (List.mem_filter.2 ⟨hq, ?_⟩), hi, hu⟩
      by_contra hp
      exact hu (hgone q hq (by simpa using hp)).2
    · rintro ⟨q, hq, hi, hu⟩
      rcases List.mem_append.1 (hr ▸ hq) with hq | hq
      · exact ⟨q, (List.mem_filter.1 hq).1, hi, hu⟩
      · exact absurd (hcome q hq).2 hu

/-- The windows counted after a change of one record. -/
theorem heldWindows_replace (hs : s.TableSound) (hx : s.recordOf id = some x)
    (hr : t.records = s.records.map fun q => if q.identity = id then y else q) :
    t.heldWindows + x.held.length = s.heldWindows + y.held.length := by
  obtain ⟨hmem, rfl⟩ := recordOf_some hx
  obtain ⟨before, behind, hsplit⟩ := List.append_of_mem hmem
  have hnd := hs.2.1
  rw [hsplit, List.map_append, List.map_cons, List.nodup_middle, List.nodup_cons] at hnd
  have hother : ∀ q ∈ before ++ behind, q.identity ≠ x.identity := fun q hq he =>
    hnd.1 (by rw [← List.map_append]; exact List.mem_map.2 ⟨q, hq, he⟩)
  have hsame (rs : List Record) (h : rs ⊆ before ++ behind) :
      (rs.map fun q => if q.identity = x.identity then y else q) = rs :=
    (List.map_congr_left fun q hq => if_neg (hother q (h hq))).trans (List.map_id _)
  unfold State.heldWindows
  rw [hr, hsplit, List.map_append, List.map_cons, if_pos rfl, hsame _ (List.subset_append_left _ _),
    hsame _ (List.subset_append_right _ _)]
  simp only [List.map_append, List.map_cons, List.sum_append, List.sum_cons]
  omega

/-- A change of one record, of the free count and of the record's place in the waiting list. -/
theorem PoolBalanced.replace (hs : s.TableSound) (hx : s.recordOf id = some x) (hy : y.identity = id)
    (hr : t.records = s.records.map fun q => if q.identity = id then y else q)
    (hfree : t.free + y.held.length = s.free + x.held.length)
    (hself : s.WaitersSound → t.waiting.Nodup ∧ (id ∈ t.waiting ↔ y.unplaced ≠ []))
    (hothers : ∀ j ≠ id, (j ∈ t.waiting ↔ j ∈ s.waiting)) : PoolBalanced s t where
  windows := by
    have := heldWindows_replace hs hx hr
    omega
  waiters h := by
    obtain ⟨honce, hid⟩ := hself h
    refine ⟨honce, fun j => ?_⟩
    by_cases hj : j = id
    · rw [hj, hid]
      refine ⟨fun hu => ⟨y, ?_, hy, hu⟩, fun ⟨q, hq, hqi, hu⟩ => ?_⟩
      · rw [hr]
        exact List.mem_map.2 ⟨x, (recordOf_some hx).1, if_pos (recordOf_some hx).2⟩
      · obtain ⟨w, -, rfl⟩ := List.mem_map.1 (hr ▸ hq)
        split at hu
        · exact hu
        · rename_i hw
          exact absurd hqi (by rwa [if_neg hw])
    · rw [hothers j hj, h.lacking]
      refine ⟨fun ⟨q, hq, hqi, hu⟩ => ⟨q, ?_, hqi, hu⟩, fun ⟨q, hq, hqi, hu⟩ => ?_⟩
      · rw [hr]
        exact List.mem_map.2 ⟨q, hq, if_neg (hqi ▸ hj)⟩
      · obtain ⟨w, hw, rfl⟩ := List.mem_map.1 (hr ▸ hq)
        split at hqi
        · exact absurd (hqi.symm.trans hy) hj
        · rename_i hwi
          rw [if_neg hwi] at hu
          exact ⟨w, hw, hqi, hu⟩

/-- A record that is not in the waiting list joins it at the tail (R119). -/
theorem nodup_joined {waiting : List Identity} (h : waiting.Nodup) (hid : id ∉ waiting) : (waiting ++ [id]).Nodup :=
  List.concat_eq_append ▸ h.concat hid

theorem waiters_mem_iff (hs : s.TableSound) (hx : s.recordOf id = some x) (h : s.WaitersSound) :
    id ∈ s.waiting ↔ x.unplaced ≠ [] := by
  obtain ⟨hmem, rfl⟩ := recordOf_some hx
  rw [h.lacking]
  refine ⟨fun ⟨q, hq, hqi, hu⟩ => ?_, fun hu => ⟨x, hmem, rfl, hu⟩⟩
  rwa [← eq_of_identity_eq hs hq hmem hqi]

/-! ## Grants -/

/-- A grant moves one window from the free ones to those held (R124). -/
theorem grantHead_balanced (hs : s.TableSound) (hx : s.recordOf id = some x) {o : Nat} {more : List Nat}
    (hu : x.unplaced = o :: more) {behind : List Identity} (hw : s.waiting = id :: behind) (hf : 0 < s.free) :
    PoolBalanced s (s.grantHead id o more behind) := by
  have hy := granted_of_unplaced_cons hu
  have hwaiting := State.grantHead_waiting s id o more behind
  refine .replace (y := x.granted 1) hs hx (recordOf_some hx).2 (grantHead_records hs hx hu behind) ?_ (fun h => ?_)
    fun j hj => ?_
  · have hlen := (insertWindow_perm (zeroWindow o) x.held).length_eq
    have hfree : (s.grantHead id o more behind).free = s.free - 1 := rfl
    rw [hy, hfree, hlen, List.length_cons]
    omega
  · have honce := h.once
    rw [hw, List.nodup_cons] at honce
    obtain ⟨hid, hnd⟩ := honce
    rw [hwaiting, hy]
    by_cases hmore : more = []
    · simp [hmore, hnd, hid]
    · simpa [hmore] using nodup_joined hnd hid
  · rw [hwaiting, hw]
    split <;> simp [hj]

theorem grantUpTo_balanced (n : Nat) (hs : s.TableSound) (hn : n ≤ s.free) : PoolBalanced s (s.grantUpTo n) := by
  induction n generalizing s with
  | zero => exact .refl s
  | succ n ih =>
    unfold State.grantUpTo
    split
    · exact .refl s
    · rename_i id behind hw
      split
      · rename_i o more hu
        obtain ⟨x, hx, hu⟩ := Option.map_eq_some_iff.1 hu
        have hfree : (s.grantHead id o more behind).free = s.free - 1 := rfl
        exact (grantHead_balanced hs hx hu hw (by omega)).trans
          (ih ((grantHead_poolStep s id o more behind).tableSound hs) (by omega))
      · rename_i hno
        refine PoolBalanced.trans (t := { s with waiting := behind }) ⟨rfl, fun h => ?_⟩ (ih hs (Nat.le_of_succ_le hn))
        obtain ⟨x, hx, hi, hu⟩ := (h.lacking id).1 (hw ▸ List.mem_cons_self)
        obtain ⟨o, more, hcons⟩ := List.exists_cons_of_ne_nil hu
        exact absurd (by rw [(recordOf_eq_some_iff hs).2 ⟨hx, hi⟩, Option.map_some, hcons]) (hno o more)

/-- A balanced change followed by its grants, which go on until no window is free or no record waits (R124). -/
theorem PoolBalanced.grantAll (h : PoolBalanced s t) (ht : t.TableSound) : PoolKept s t.grantAll :=
  (h.trans (grantUpTo_balanced t.free ht le_rfl)).kept fun hs => by
    have hw := h.waiters (waitingSound_iff.1 hs).1
    exact grantUpTo_ends t.free ht le_rfl hw.once fun id hid => (hw.lacking id).1 hid

end Sys2Proof.Machine
end

section
/-! SUPPORT. The releases, claims, installations and trims that keep the conditions on the pool (O58). -/

namespace Sys2Proof.Machine

variable {s t u : State} {id : Identity} {r x : Record}

/-! ## Releases and claims -/

theorem returnWindows_balanced (hs : s.TableSound) (id : Identity) : PoolBalanced s (s.returnWindows id) := by
  cases hx : s.recordOf id with
  | none =>
    simp only [State.returnWindows, hx]
    exact .refl s
  | some x =>
    rw [returnWindows_eq hx]
    exact .replace (y := x.emptied) hs hx (recordOf_some hx).2 (congrArg State.records (update_eq_const hs hx _)) rfl
      (fun h => ⟨h.once.filter _, by simp [Record.emptied]⟩) fun j hj => by simp [hj]

/-- A release with its grants (R123). -/
theorem releaseAll_kept (hs : s.TableSound) (id : Identity) : PoolKept s (s.releaseAll id) :=
  (returnWindows_balanced hs id).grantAll ((returnWindows_poolStep s id).tableSound hs)

/-- A record that changes, gives up its windows and leaves the search unit. -/
theorem retire_kept (hs : s.TableSound) {f : Record → Record} (hf : KeysKept f) (hk : ∀ r, (f r).poolKey = r.poolKey) :
    PoolKept s (((s.update id f).releaseAll id).cancelSearch id) :=
  ((PoolSame.update s id hk).kept.trans (releaseAll_kept ((update_rowsKept s id hf).tableSound hs) id)).trans
    (PoolSame.cancelSearch _ id).kept

/-- The provisional claim of a record that has nothing of the pool: a free window, or a place at the tail of the waiting
list where none is free (R120). -/
theorem claimProvisional_kept (hs : s.TableSound) (hx : s.recordOf id = some x) (hh : x.held = []) (hu : x.unplaced = [])
    (o : Nat) : PoolKept s (s.claimProvisional id o) := by
  rw [claimProvisional_eq hs hx]
  by_cases hf : s.free = 0
  · refine PoolBalanced.kept (.replace (y := x.provisional (s.free == 0) o) hs hx (recordOf_some hx).2 rfl ?_ (fun h => ?_)
      fun j hj => ?_) fun _ => .inl (by simp [hf])
    · simp [hf, hh, Record.provisional]
    · have hid : id ∉ s.waiting := fun hmem => (waiters_mem_iff hs hx h).1 hmem hu
      simp [hf, Record.provisional, nodup_joined h.once hid]
    · simp [hf, hj]
  · refine PoolBalanced.kept (.replace (y := x.provisional (s.free == 0) o) hs hx (recordOf_some hx).2 rfl ?_ (fun h => ?_)
      fun j hj => ?_) fun h => .inr ?_
    · simp [hf, hh, Record.provisional]
      omega
    · have hid : id ∉ s.waiting := fun hmem => (waiters_mem_iff hs hx h).1 hmem hu
      simp [hf, Record.provisional, hu, hid, h.once]
    · simp [hf]
    · simpa [hf] using (waitingSound_iff.1 h).2

/-- Cancellation begins (R15, R21). -/
theorem beginCancel_kept (hs : s.TableSound) (hx : s.recordOf id = some x) (hh : x.held = []) (hu : x.unplaced = [])
    (p : Profile) : PoolKept s (s.beginCancel id p) := by
  have hclaim := claimProvisional_kept hs hx hh hu p.provisionalOffset
  unfold State.beginCancel
  dsimp only
  split
  · split
    · exact hclaim.trans (PoolSame.request _ _ _).kept
    · exact hclaim
  · exact .refl s

/-! ## The end of a search -/

theorem settleState_poolKey (before : List Nat) (r : Record) : (settleState before r).poolKey = r.poolKey := by
  simp only [Record.poolKey, settleState_identity, settleState_held, settleState_unplaced]

/-- The claims of a placement, before its grants: as many of its windows as are free, the others waited for (R121). -/
theorem placed_balanced (hs : s.TableSound) (hx : s.recordOf r.identity = some x) (hheld : x.held = r.held)
    (placement : List Nat) : PoolBalanced s (s.placed r placement) := by
  rw [placed_eq hs hx hheld]
  generalize hn : s.free + r.held.length = n
  have hlen : (x.installed r.held (placement.take n) (placement.drop n)).held.length = (placement.take n).length := by
    have := (claimedWindows_perm r.held (placement.take n)).length_eq
    unfold Record.installed
    split <;> simpa using this
  have hun : (x.installed r.held (placement.take n) (placement.drop n)).unplaced = placement.drop n := by
    unfold Record.installed
    split
    · rename_i h
      exact h.symm
    · rfl
  refine .replace hs hx ((installed_identity _ _ _ x).trans (recordOf_some hx).2) rfl ?_ (fun h => ?_) fun j hj => ?_
  · have hle : (placement.take n).length ≤ n := List.length_take_le _ _
    dsimp only
    rw [hlen, hheld, hn]
    omega
  · have hid : r.identity ∉ s.waiting.filter (· != r.identity) := by simp
    rw [hun]
    by_cases hshort : placement.drop n = []
    · simp [hshort, h.once.filter]
    · simpa [hshort] using nodup_joined (h.once.filter _) hid
  · dsimp only
    split <;> simp [hj]

theorem install_kept (hs : s.TableSound) (hx : s.recordOf r.identity = some x) (hheld : x.held = r.held)
    (placement : List Nat) : PoolKept s (s.install r placement) := by
  rw [install_eq]
  refine ((placed_balanced hs hx hheld placement).trans
    (PoolSame.update _ _ (settleState_poolKey _)).balanced).grantAll ?_
  exact (update_rowsKept _ _ (keysKept_settleState _)).tableSound ((placed_poolStep s r placement).tableSound hs)

theorem judgeSearch_kept (hs : s.TableSound) (hr : s.recordOf r.identity = some r) (sl : Slot) :
    PoolKept s (s.judgeSearch r sl) := by
  have noted (res : SearchResult) : PoolKept s (s.update r.identity (noteResult res)) :=
    (PoolSame.update s r.identity (f := noteResult res) fun _ => rfl).kept
  have table (res : SearchResult) : (s.update r.identity (noteResult res)).TableSound :=
    (update_rowsKept s _ (keysKept_noteResult res)).tableSound hs
  unfold State.judgeSearch
  split
  · exact (noted _).trans (install_kept (table _) (recordOf_update_self (f := noteResult .placed) (fun _ => rfl) hr) rfl _)
  · exact (noted _).trans (releaseAll_kept (table _) _)

theorem arbitrate_kept (s : State) : PoolKept s s.arbitrate :=
  .of_keys (arbitrate_free s) (arbitrate_waiting s) (by rw [arbitrate_records])

theorem completeSearch_kept (hs : s.TableSound) (id : Identity) : PoolKept s (s.completeSearch id) := by
  unfold State.completeSearch
  split
  · rename_i r sl hr _
    split
    · have hfree : PoolKept s (s.freeSlot id) := .of_keys rfl rfl rfl
      have hof : (s.freeSlot id).recordOf r.identity = some r := by rwa [(recordOf_some hr).2]
      exact (hfree.trans (judgeSearch_kept (s := s.freeSlot id) hs hof sl)).trans (arbitrate_kept _)
    · exact .refl s
  · exact .refl s

theorem timeOutSearch_kept (s : State) (id : Identity) : PoolKept s (s.timeOutSearch id) := by
  unfold State.timeOutSearch
  split
  · split
    · have hup := PoolSame.update (s.freeSlot id) id (f := inconclusiveRecord) fun _ => rfl
      refine PoolKept.trans ?_ (arbitrate_kept _)
      exact .of_keys rfl rfl hup.records
    · exact .refl s
  · exact .refl s

theorem endSearches_kept (hs : s.TableSound) : PoolKept s s.endSearches :=
  (endSearches_induction (P := fun u => u.TableSound ∧ PoolKept s u)
    (fun u id ⟨hu, hk⟩ => ⟨(completeSearch_rowsKept u id).tableSound hu, hk.trans (completeSearch_kept hu id)⟩)
    (fun u id ⟨hu, hk⟩ => ⟨(timeOutSearch_rowsKept u id).tableSound hu, hk.trans (timeOutSearch_kept u id)⟩)
    ⟨hs, .refl s⟩).2

/-! ## The profile change -/

/-- The trim to the new profile's limit, before its grants: the windows released are free, and a record whose unplaced list
the trim empties leaves the waiting list (R19). -/
theorem retrimmed_balanced (hs : s.TableSound) (hr : s.recordOf r.identity = some r) (number : ProfileNumber) :
    PoolBalanced s (s.retrimmed r number) := by
  unfold State.retrimmed
  generalize s.settings.profiles.get number = p
  have hun : (retrimmedRecord p number r).unplaced = r.unplaced.take (p.windowLimit - r.held.length) := rfl
  refine .replace (y := retrimmedRecord p number r) hs hr rfl (congrArg State.records (update_eq_const hs hr _)) ?_
    (fun h => ?_) fun j hj => ?_
  · have hlen : (retrimmedRecord p number r).held.length = min p.windowLimit r.held.length := List.length_take
    dsimp only
    rw [hlen]
    omega
  · rw [hun]
    by_cases hnil : r.unplaced.take (p.windowLimit - r.held.length) = []
    · simp [hnil, h.once.filter]
    · have hlacks : r.unplaced ≠ [] := fun he => hnil (by rw [he, List.take_nil])
      simp [hnil, h.once, (waiters_mem_iff hs hr h).2 hlacks]
  · dsimp only
    split <;> simp [hj]

theorem changeProfile_kept (hs : s.TableSound) (hr : s.recordOf r.identity = some r) (number : ProfileNumber) :
    PoolKept s (s.changeProfile r number) := by
  by_cases hn : number = r.profile
  · rw [changeProfile_same s hn]
    exact .refl s
  · have htrim := retrimmed_balanced hs hr number
    rw [changeProfile_retrimmed s hn]
    split
    · rename_i hle
      refine htrim.kept fun h => (waitingSound_iff.1 h).2.imp (fun hf => ?_) fun hw => ?_
      · simp only [State.retrimmed]
        omega
      · simp [State.retrimmed, hw]
    · exact htrim.grantAll (retrimmed_tableSound hs r number)

/-! ## Records that come and go -/

/-- A record that is removed has given its windows back (R16). -/
theorem detachRecord_kept (hs : s.TableSound) (hr : s.recordOf r.identity = some r) : PoolKept s (s.detachRecord r) := by
  have hempty := recordOf_releaseAll hs hr
  have htable := (releaseAll_poolStep s r.identity).tableSound hs
  refine (releaseAll_kept hs r.identity).trans (.of_table (p := (·.identity != r.identity)) (rs := [])
    (cancelSearch_free _ _) (cancelSearch_waiting _ _) (by rw [detach_records, List.append_nil]) (fun q hq hp => ?_) (by simp))
  have hqe := eq_of_identity_eq htable hq (recordOf_some hempty).1
    (show q.identity = r.identity by simpa using hp)
  exact ⟨congrArg Record.held hqe, congrArg Record.unplaced hqe⟩

/-- The LAPSED record that an ATTACH replaces has nothing of the pool, and neither has the new one (R6, R12, R14). -/
theorem enter_kept (hs : s.TableSound) (hst : s.StatesSound) {pos : Position} (htaken : s.isTaken pos = false)
    (hh : r.held = []) (hu : r.unplaced = []) : PoolKept s ((s.retireAt pos).enter r) := by
  refine .of_table (p := (·.position != pos)) (rs := [r]) ?_ ?_ (attach_records s pos r) (fun q hq hp => ?_)
    fun q hq => by rw [List.mem_singleton.1 hq]; exact ⟨hh, hu⟩
  · rw [enter_retireAt]
  · rw [enter_retireAt]
  · exact (stateSound_iff.1 (hst q hq)).2 (.inr (not_isTaken hs htaken hq (by simpa using hp)))

/-- The new record begins to cancel (R15). -/
theorem enter_beginCancel_kept (hs : s.TableSound) (hst : s.StatesSound) {pos : Position}
    (hdup : s.isDuplicate id pos = false) (htaken : s.isTaken pos = false) (hfull : s.isFull pos = false)
    (hi : r.identity = id) (hp : r.position = pos) (hh : r.held = []) (hu : r.unplaced = []) (p : Profile) :
    PoolKept s (((s.retireAt pos).enter r).beginCancel id p) := by
  have htable := attach_tableSound hs hdup hfull hi hp
  have hmem : r ∈ ((s.retireAt pos).enter r).records := by rw [attach_records]; simp
  exact (enter_kept hs hst htaken hh hu).trans
    (beginCancel_kept htable ((recordOf_eq_some_iff htable).2 ⟨hmem, hi⟩) hh hu p)

end Sys2Proof.Machine
end

section
/-! SUPPORT. Every step keeps the conditions on the pool (O58): the block end, the frame, the commands, the control line. -/

namespace Sys2Proof.Machine

variable {s t u : State} {id : Identity} {r : Record}

/-! ## The block end and the frame -/

theorem released_kept (hs : s.TableSound) (id : Identity) : (s.released id).TableSound ∧ PoolKept s (s.released id) := by
  cases hx : s.recordOf id with
  | none =>
    simp only [State.released, hx]
    exact ⟨hs, .refl s⟩
  | some x =>
    rw [released_eq hx]
    exact ⟨(releaseAll_poolStep s id).tableSound hs, releaseAll_kept hs id⟩

theorem lapsesReleased_kept (hs : s.TableSound) : PoolKept s s.lapsesReleased := by
  have hat (v : State) (position : Position) (hv : v.TableSound) :
      (s.releasedAt v position).TableSound ∧ PoolKept v (s.releasedAt v position) := by
    unfold State.releasedAt
    split
    · exact ⟨hv, .refl v⟩
    · split
      · exact released_kept hv _
      · exact ⟨hv, .refl v⟩
  rw [lapsesReleased_eq]
  exact (List.foldlRecOn allPositions s.releasedAt (motive := fun v => v.TableSound ∧ PoolKept s v) ⟨hs, .refl s⟩
    fun v ⟨hv, hk⟩ position _ => ⟨(hat v position hv).1, hk.trans (hat v position hv).2⟩).2

theorem endBlock_kept (hs : s.TableSound) : PoolKept s s.endBlock := by
  cases hdue : s.blockEndDue with
  | true => exact (lapsesReleased_kept hs).trans (endBlock_poolSame hdue hs).kept
  | false =>
    rw [endBlock_of_not_due hdue]
    exact .refl s

theorem sameModel_poolKey {q : Record} (hi : q.identity = r.identity) (h : r.SameModel q) : q.poolKey = r.poolKey := by
  have hoffsets := congrArg (List.map Prod.fst) h.windows
  rw [List.map_map, List.map_map] at hoffsets
  exact congrArg₂ Prod.mk hi (congrArg₂ Prod.mk hoffsets h.unplaced)

/-- The frame work adapts windows and does not move them (R36, R58). -/
theorem worked_kept (s : State) (tin xin : List Sample) : PoolKept s (s.worked tin xin) := by
  refine .of_keys rfl rfl ?_
  rw [worked_records, List.map_map]
  exact List.map_congr_left fun r _ =>
    sameModel_poolKey (framed_identity s tin xin r) (tame_frameOf _ r _ _).model

theorem worked_tableSound (hs : s.TableSound) (tin xin : List Sample) : (s.worked tin xin).TableSound := by
  refine tableSound_of_keys (s := s) ?_ ?_ hs <;> rw [worked_records, List.map_map]
  · exact List.map_congr_left fun r _ => framed_identity s tin xin r
  · exact List.map_congr_left fun r _ => framed_position s tin xin r

theorem takeFrame_kept (hs : s.TableSound) (tin xin : List Sample) : PoolKept s (s.takeFrame tin xin) := by
  have hend : s.endBlock.TableSound := (endBlock_keysStep s).tableSound hs
  exact ((endBlock_kept hs).trans (worked_kept s.endBlock tin xin)).trans (endSearches_kept (worked_tableSound hend tin xin))

/-! ## The transitions as steps -/

theorem promoteIfDue_kept (s : State) (id : Identity) : PoolKept s (s.promoteIfDue id) := by
  unfold State.promoteIfDue
  split
  · split
    · exact (PoolSame.update s id (f := promoteRecord) fun _ => rfl).kept
    · exact .refl s
  · exact .refl s

theorem changePathIfDue_kept (s : State) (id : Identity) : PoolKept s (s.changePathIfDue id) := by
  unfold State.changePathIfDue
  split
  · split
    · exact ((PoolSame.update s id (f := changePathRecord) fun _ => rfl).trans (.supervisorRequest _ _)).kept
    · exact .refl s
  · exact .refl s

theorem enterBypassIfDue_kept (s : State) (id : Identity) : PoolKept s (s.enterBypassIfDue id) := by
  unfold State.enterBypassIfDue
  split
  · split
    · exact ((PoolSame.update s id (f := bypassRecord) fun _ => rfl).trans (.cancelSearch _ _)).kept
    · exact .refl s
  · exact .refl s

theorem returnIfDue_kept (s : State) (id : Identity) : PoolKept s (s.returnIfDue id) := by
  have back := PoolSame.update s id (f := returnRecord) fun _ => rfl
  unfold State.returnIfDue
  split
  · split
    · split
      · exact (back.trans (.request _ _ _)).kept
      · exact back.kept
    · exact .refl s
  · exact .refl s

theorem lapseIfDue_kept (hs : s.TableSound) (id : Identity) : PoolKept s (s.lapseIfDue id) := by
  unfold State.lapseIfDue
  split
  · split
    · exact (retire_kept hs keysKept_lapseRecord fun _ => rfl).trans (.of_keys rfl rfl rfl)
    · exact .refl s
  · exact .refl s

/-! ## The record commands -/

theorem doAttach_kept (hs : s.TableSound) (hst : s.StatesSound) (position profile mode : Byte) :
    PoolKept s (doAttach id position profile mode s).state := by
  unfold doAttach
  split
  · exact .refl s
  · exact .refl s
  · exact .refl s
  rename_i pos number m _ _ _
  split
  · exact .refl s
  rename_i hdup
  split
  · exact .refl s
  rename_i htaken
  split
  · exact .of_keys rfl rfl rfl
  rename_i hfull
  generalize chooseProfile s.settings id number m = choice
  have hdup : s.isDuplicate id pos = false := by simpa using hdup
  have htaken : s.isTaken pos = false := by simpa using htaken
  have hfull : s.isFull pos = false := by simpa using hfull
  simp only [attachAt]
  split
  · exact enter_beginCancel_kept hs hst hdup htaken hfull rfl rfl rfl rfl _
  · exact enter_kept hs hst htaken rfl rfl

theorem doDetach_kept (hs : s.TableSound) (id : Identity) : PoolKept s (doDetach id s).state := by
  unfold doDetach
  split
  · exact .refl s
  · rename_i r hr
    exact detachRecord_kept hs (by rwa [(recordOf_some hr).2])

/-- A change of mode to TRANSPARENT releases the record's windows; one to CANCEL begins with a record that has none (R6,
R21). -/
theorem changeMode_kept (hs : s.TableSound) (hst : s.StatesSound) (mode : Option Mode) :
    PoolKept s (s.changeMode id mode).1 := by
  unfold State.changeMode
  split
  · split
    · exact .refl s
    · exact retire_kept hs keysKept_transparentRecord fun _ => rfl
  · rename_i r hr
    split
    · rename_i htransparent
      obtain ⟨hh, hu⟩ := (stateSound_iff.1 (hst r (recordOf_some hr).1)).2 (.inl htransparent)
      exact (PoolSame.update s id (f := settlingRecord) fun _ => rfl).kept.trans
        (beginCancel_kept ((update_rowsKept s id keysKept_settlingRecord).tableSound hs)
          (recordOf_update_self (f := settlingRecord) (fun _ => rfl) hr) hh hu _)
    · exact .refl s
  · exact .refl s

/-- The profile change of a MODIFY keeps the pool and what the next changes rest on (R18, R19). -/
theorem reprofile_kept (hs : s.TableSound) (hst : s.StatesSound) (hr : s.recordOf r.identity = some r)
    (number : Option ProfileNumber) :
    (s.reprofile r number).StatesSound ∧ PoolKept s (s.reprofile r number) := by
  cases number with
  | none => exact ⟨hst, .refl s⟩
  | some n => exact ⟨changeProfile_statesSound hs hst r n, changeProfile_kept hs hr n⟩

theorem modifyRecord_kept (hs : s.TableSound) (hst : s.StatesSound) (hr : s.recordOf r.identity = some r)
    (mode : Option Mode) (freeze : Option Bool) (number : Option ProfileNumber) (padIn padOut : PadChange)
    (gainReset : Bool) : PoolKept s (modifyRecord r mode freeze number padIn padOut gainReset s).state := by
  rw [modifyRecord_eq]
  generalize s.settings.profiles.get (number.getD r.profile) = p
  obtain ⟨hst1, h1⟩ := reprofile_kept hs hst hr number
  have hs1 := (reprofile_rowsKept s r number).tableSound hs
  have h2 := (PoolSame.update (s.reprofile r number) r.identity
    (f := changeLevels p gainReset padIn padOut freeze) fun _ => rfl).kept
  have hs2 := (update_rowsKept (s.reprofile r number) r.identity
    (keysKept_changeLevels p gainReset padIn padOut freeze)).tableSound hs1
  have hst2 : ((s.reprofile r number).update r.identity (changeLevels p gainReset padIn padOut freeze)).StatesSound :=
    forall_update hst1 fun q hq _ => stateSound_iff.2 (stateSound_iff.1 (hst1 q hq))
  exact (h1.trans h2).trans (changeMode_kept hs2 hst2 mode)

theorem doModify_kept (hs : s.TableSound) (hst : s.StatesSound) (mode freeze profile : Byte) (padIn padOut : BitVec 16)
    (gainReset : Byte) : PoolKept s (doModify id mode freeze profile padIn padOut gainReset s).state := by
  unfold doModify
  split
  · exact .refl s
  split
  · split
    · exact .refl s
    · rename_i r hr
      split
      · exact .refl s
      · exact modifyRecord_kept hs hst (by rwa [(recordOf_some hr).2]) _ _ _ _ _ _
  · exact .refl s

theorem doRebind_kept (s : State) (id : Identity) (position : Byte) : PoolKept s (doRebind id position s).state := by
  unfold doRebind
  split
  · exact .refl s
  rename_i pos _
  split
  · exact .refl s
  split
  · exact .refl s
  split
  · exact .refl s
  · have h := PoolSame.update s id (f := rebindRecord pos) fun _ => rfl
    exact .of_keys rfl rfl h.records

theorem movedRecord_poolKey (a b : Fin 4) (r : Record) : (movedRecord a b r).poolKey = r.poolKey := by
  unfold movedRecord
  split
  · simp only [Record.poolKey, moveRecord_identity, moveRecord_held, moveRecord_unplaced]
  · rfl

theorem doMoveLine_kept (s : State) (fromLine toLine : Byte) : PoolKept s (doMoveLine fromLine toLine s).state := by
  unfold doMoveLine
  split
  · split
    · exact .refl s
    split
    · exact .refl s
    · refine .of_keys rfl rfl ?_
      rw [List.map_map]
      exact List.map_congr_left fun r _ => movedRecord_poolKey _ _ r
  · exact .refl s

theorem doResearch_kept (s : State) (id : Identity) (lane : Byte) : PoolKept s (doResearch id lane s).state := by
  unfold doResearch
  split
  · exact .refl s
  split
  · exact .refl s
  split
  · exact .refl s
  split
  · exact .refl s
  · exact (PoolSame.request s _ id).kept

theorem doAckAlarms_kept (s : State) (id : Identity) (alarms : Byte) : PoolKept s (doAckAlarms id alarms s).state := by
  unfold doAckAlarms
  split
  · exact .refl s
  split
  · exact .refl s
  · rename_i r _
    exact (PoolSame.update s id (f := fun q => { q with alarms := r.alarms &&& ~~~(alarms.setWidth 4) }) fun _ => rfl).kept

/-! ## The other commands -/

theorem doTally_kept (s : State) (selector : Byte) (id : Identity) (clear : Byte) :
    PoolKept s (doTally selector id clear s).state := by
  unfold doTally
  split
  · rename_i c _ _
    split
    · exact .refl s
    · exact (PoolSame.update s id (f := clearTallies c) fun r => by
        simp only [Record.poolKey, clearTallies_identity, clearTallies_held, clearTallies_unplaced]).kept
  · dsimp only
    split
    · exact .of_keys rfl rfl rfl
    · exact .refl s
  · exact .refl s

theorem loadWorking_kept (s : State) : PoolKept s s.loadWorking := by
  obtain ⟨c, e, h, -⟩ := loadWorking_shape s
  rw [h]
  exact .of_keys rfl rfl rfl

theorem doProfileWrite_kept (s : State) (number : Byte) (layout : List Byte) :
    PoolKept s (doProfileWrite number layout s).state := by
  unfold doProfileWrite
  split
  · exact .refl s
  split
  · exact .refl s
  split
  · exact .refl s
  split
  · exact .refl s
  · exact .of_keys rfl rfl rfl

theorem doRuleWrite_kept (s : State) (number enabled : Byte) (base mask : BitVec 16) (profile mode : Byte) :
    PoolKept s (doRuleWrite number enabled base mask profile mode s).state := by
  unfold doRuleWrite
  split
  · exact .refl s
  · exact .refl s
  · dsimp only
    split
    · exact .refl s
    · exact .of_keys rfl rfl rfl
  · exact .refl s

theorem doStore_kept (s : State) : PoolKept s (doStore s).state := by
  unfold doStore
  split
  · exact .refl s
  split
  · exact .refl s
  · exact .of_keys rfl rfl rfl

theorem doLoad_kept (s : State) : PoolKept s (doLoad s).state := by
  unfold doLoad
  split
  · exact .refl s
  split
  · exact .refl s
  · exact loadWorking_kept s

/-- A part without records, with every window free and nobody waiting (R118). -/
theorem PoolKept.of_empty (hr : t.records = []) (hf : t.free = 144) (hw : t.waiting = []) : PoolKept s t where
  pool _ := by simp [State.PoolSound, State.heldWindows, hr, hf]
  waiting _ := by simp [State.WaitingSound, hr, hw]

end Sys2Proof.Machine
end

section
/-! SUPPORT. Every step keeps the conditions on the pool, continued: all commands, the control line and the step itself
(O58). -/

namespace Sys2Proof.Machine

variable {s t : State}

/-! ## Carrying out a command -/

theorem carryOut_kept (hs : s.TableSound) (hst : s.StatesSound) (i : Instr) : PoolKept s (carryOut i s).state := by
  cases i with
  | attach id position profile mode => exact doAttach_kept hs hst position profile mode
  | detach id => exact doDetach_kept hs id
  | modify id mode freeze profile padIn padOut gainReset =>
    exact doModify_kept hs hst mode freeze profile padIn padOut gainReset
  | rebind id position => exact doRebind_kept s id position
  | moveLine a b => exact doMoveLine_kept s a b
  | research id lane => exact doResearch_kept s id lane
  | look id => simp only [carryOut, doLook]; split <;> exact .refl s
  | lookWindow id index =>
    simp only [carryOut, doLookWindow]
    split
    · exact .refl s
    · split <;> exact .refl s
  | find position =>
    simp only [carryOut, doFind]
    split
    · exact .refl s
    · split <;> exact .refl s
  | list states alarms start => simp only [carryOut, doList]; split <;> exact .refl s
  | ackAlarms id alarms => exact doAckAlarms_kept s id alarms
  | profileRead number => simp only [carryOut, doProfileRead]; split <;> exact .refl s
  | profileWrite number layout => exact doProfileWrite_kept s number layout
  | ruleRead number => simp only [carryOut, doRuleRead]; split <;> exact .refl s
  | ruleWrite number enabled base mask profile mode => exact doRuleWrite_kept s number enabled base mask profile mode
  | ruleEnable number setting =>
    simp only [carryOut, doRuleEnable]
    split
    · exact .of_keys rfl rfl rfl
    · exact .refl s
  | store => exact doStore_kept s
  | load => exact doLoad_kept s
  | ackEvents | setMask => exact .of_keys rfl rfl rfl
  | tally selector id clear => exact doTally_kept s selector id clear
  | restart => exact .of_empty rfl rfl rfl
  | events | ident | reset | frameSync | blockEnd | promotion | pathChange | entryToBypass | returnFromBypass | idleLapse
  | searchComplete | searchTimeout | storeComplete | commandFrameReceived | interByteGap | overrun | replySent
  | characterFault | powerLoss => exact .refl s

theorem respond_kept (code : Byte) (a : Answer) : PoolKept a.state (respond code a) :=
  .of_keys (respond_free code a) (respond_waiting code a) (by rw [respond_records])

/-! ## The control line -/

/-- What O58 assumes of a state beside the conditions on the pool: a step that carries out several commands needs it of
each state between them. -/
structure State.PoolPremises (s : State) : Prop where
  table : s.TableSound
  search : s.SearchSound
  states : s.StatesSound

theorem Moves.poolPremises (h : Moves True s t) (hs : s.PoolPremises) : t.PoolPremises :=
  h.keep (P := State.PoolPremises) (fun _ _ hm ⟨h1, h2, h3⟩ =>
    ⟨hm.tableSound trivial h1, hm.searchSound trivial h1 h2, hm.statesSound trivial h1 h2 h3⟩) hs

theorem lineFault_kept (s : State) : PoolKept s s.lineFault := .of_keys rfl rfl rfl

theorem takeBroadcast_kept (hs : s.PoolPremises) (code : Byte) (parameters : List Byte) :
    PoolKept s (s.takeBroadcast code parameters) := by
  unfold State.takeBroadcast
  split
  · split
    · exact carryOut_kept hs.table hs.states _
    · exact .refl s
    · exact .refl s
  · exact .refl s

theorem takeAddressed_kept (hs : s.PoolPremises) (code : Byte) (parameters : List Byte) :
    PoolKept s (s.takeAddressed code parameters) := by
  unfold State.takeAddressed
  split
  · exact (carryOut_kept hs.table hs.states _).trans (respond_kept _ _)
  · exact respond_kept code (refuse s .unknownCommand)
  · exact respond_kept code (refuse s .badLength)

theorem judgeFrame_kept (hs : s.PoolPremises) (bytes : List Byte) : PoolKept s (s.judgeFrame bytes) := by
  have hunt : PoolKept s (s.setHearing .hunting) := .of_keys rfl rfl rfl
  have hunting : (s.setHearing .hunting).PoolPremises := ⟨hs.table, hs.search, hs.states⟩
  unfold State.judgeFrame
  split
  · exact lineFault_kept s
  split
  · exact hunt
  split
  · exact hunt.trans (takeBroadcast_kept hunting _ _)
  split
  · exact hunt.trans (takeAddressed_kept hunting _ _)
  · exact hunt

theorem hear_kept (hs : s.PoolPremises) (b : Byte) : PoolKept s (s.hear b) := by
  unfold State.hear
  split
  · split
    · split <;> exact .of_keys rfl rfl rfl
    · exact .refl s
  · split
    · exact .of_keys rfl rfl rfl
    · exact lineFault_kept s
    · exact judgeFrame_kept hs _
  · split <;> exact .of_keys rfl rfl rfl

/-- The bytes heard, one after another (R177). -/
theorem hearAll_kept (hs : s.PoolPremises) (bytes : List Byte) :
    (s.hearAll bytes).PoolPremises ∧ PoolKept s (s.hearAll bytes) :=
  List.foldlRecOn bytes State.hear (motive := fun u => u.PoolPremises ∧ PoolKept s u) ⟨hs, .refl s⟩
    fun u ⟨hu, hk⟩ b _ =>
      ⟨(hear_moves u b fun _ => hu.table).poolPremises hu, hk.trans (hear_kept hu b)⟩

theorem breakFrame_kept (hs : s.PoolPremises) : s.breakFrame.PoolPremises ∧ PoolKept s s.breakFrame := by
  refine ⟨(breakFrame_moves s).poolPremises hs, ?_⟩
  unfold State.breakFrame
  split
  · exact .refl s
  · exact lineFault_kept s
  · exact .of_keys rfl rfl rfl

/-- A frame broken off by a gap or a fault after some bytes (R177). -/
theorem heardAndBroken_kept (hs : s.PoolPremises) (heard : List Byte) :
    (s.hearAll heard).breakFrame.PoolPremises ∧ PoolKept s (s.hearAll heard).breakFrame := by
  obtain ⟨hheard, hk⟩ := hearAll_kept hs heard
  obtain ⟨hbroken, hk'⟩ := breakFrame_kept hheard
  exact ⟨hbroken, hk.trans hk'⟩

/-! ## The store, the reset and the supply -/

theorem completeStore_kept (s : State) (verified : Bool) : PoolKept s (s.completeStore verified) := by
  unfold State.completeStore
  split
  · exact .refl s
  · split <;> exact .of_keys rfl rfl rfl

theorem takeReset_kept (s : State) (pin : ResetPin) (straps : StrapPins) : PoolKept s (s.takeReset pin straps) := by
  have hreset (address : BitVec 4) (rate : LineRate) : (s.resetPart address rate).records = [] ∧
      (s.resetPart address rate).free = 144 ∧ (s.resetPart address rate).waiting = [] := by
    rw [resetPart_eq]
    exact ⟨rfl, rfl, rfl⟩
  cases pin with
  | held =>
    obtain ⟨hr, hf, hw⟩ := hreset s.port.address s.port.rate
    exact .of_empty hr hf hw
  | released =>
    obtain ⟨hr, hf, hw⟩ := hreset straps.address (rateOf straps.rate)
    exact .of_empty hr hf hw

theorem powerLoss_kept (s : State) : PoolKept s (if s.powered then { s.cutStore with powered := false } else s) := by
  unfold State.cutStore
  split
  · split <;> exact .of_keys rfl rfl rfl
  · exact .refl s

/-! ## The step -/

theorem whileRunning_kept {f : State → State} (h : whileRunning s f = .next t) (hf : PoolKept s (f s)) : PoolKept s t := by
  rcases whileRunning_cases h with rfl | rfl
  · exact .refl _
  · exact hf

theorem exec_kept (hs : s.PoolPremises) {i : Instr} (h : exec i s = .next t) : PoolKept s t := by
  cases hcode : encodeCommand i with
  | some command =>
    rw [exec_eq_takeCommand hcode] at h
    exact whileRunning_kept h ((carryOut_kept hs.table hs.states i).trans (respond_kept _ _))
  | none =>
    cases i with
    | reset pin straps => cases h; exact takeReset_kept s pin straps
    | frameSync tin xin => exact whileRunning_kept (f := fun s => s.takeFrame tin xin) h (takeFrame_kept hs.table tin xin)
    | blockEnd => exact whileRunning_kept h (endBlock_kept hs.table)
    | promotion id => exact whileRunning_kept (f := fun s => s.promoteIfDue id) h (promoteIfDue_kept s id)
    | pathChange id => exact whileRunning_kept (f := fun s => s.changePathIfDue id) h (changePathIfDue_kept s id)
    | entryToBypass id => exact whileRunning_kept (f := fun s => s.enterBypassIfDue id) h (enterBypassIfDue_kept s id)
    | returnFromBypass id => exact whileRunning_kept (f := fun s => s.returnIfDue id) h (returnIfDue_kept s id)
    | idleLapse id => exact whileRunning_kept (f := fun s => s.lapseIfDue id) h (lapseIfDue_kept hs.table id)
    | searchComplete id => exact whileRunning_kept (f := fun s => s.completeSearch id) h (completeSearch_kept hs.table id)
    | searchTimeout id => exact whileRunning_kept (f := fun s => s.timeOutSearch id) h (timeOutSearch_kept s id)
    | storeComplete verified =>
      exact whileRunning_kept (f := fun s => s.completeStore verified) h (completeStore_kept s verified)
    | commandFrameReceived bytes => exact whileRunning_kept (f := fun s => s.hearAll bytes) h (hearAll_kept hs bytes).2
    | interByteGap heard next =>
      obtain ⟨hbroken, hk⟩ := heardAndBroken_kept hs heard
      exact whileRunning_kept (f := fun s => (s.hearAll heard).breakFrame.hear next) h (hk.trans (hear_kept hbroken next))
    | characterFault heard =>
      exact whileRunning_kept (f := fun s => (s.hearAll heard).breakFrame) h (heardAndBroken_kept hs heard).2
    | overrun rest =>
      refine whileRunning_kept (f := fun s => if s.isBusy then s.hearAll (syncByte :: rest) else s) h ?_
      split
      · exact (hearAll_kept hs _).2
      · exact .refl s
    | replySent =>
      exact whileRunning_kept (f := fun s => { s with port := { s.port with reply := none } }) h (.of_keys rfl rfl rfl)
    | powerLoss => cases h; exact powerLoss_kept s
    | _ => cases hcode

theorem step_kept (hs : s.PoolPremises) (h : step s = .next t) : PoolKept s t := by
  unfold step at h
  split at h
  · cases h
    exact .refl s
  · rename_i i rest _
    have hqueue : PoolKept s { s with pending := rest } := .of_keys rfl rfl rfl
    exact hqueue.trans (exec_kept ⟨hs.table, hs.search, hs.states⟩ h)

end Sys2Proof.Machine

open Sys2Proof Sys2Proof.Machine

/-- Settles O58: no operation loses or makes a window, each leaves the waiting list naming the records that lack an offset,
and grants follow wherever one could leave a window free while a record waits. -/
theorem stepKeepsWindowPool : Obligations.StepKeepsWindowPool := by
  intro s t h hs hse hst
  obtain ⟨hpool, hwaiting⟩ := step_kept ⟨hs, hse, hst⟩ h
  exact ⟨hpool, hwaiting⟩
end

section
/-! SUPPORT. The settings: a working profile or rule replaced, the clamping in closed form, and the operands of chapter 11
(O41, O43). -/

namespace Sys2Proof.Machine

variable {s : State}

/-! ## Operands -/

theorem parseRuleNumber_of_eq {b : Byte} {n : RuleNumber} (h : b.toNat = n.val) : parseRuleNumber b = some n := by
  unfold parseRuleNumber
  rw [dif_pos (h ▸ n.isLt)]
  exact congrArg some (Fin.ext h)

theorem parseRuleNumber_of_ge {b : Byte} (h : 8 ≤ b.toNat) : parseRuleNumber b = none := by
  simp [parseRuleNumber, h]

theorem parseBool_of_other {b : Byte} (h0 : b ≠ 0x00) (h1 : b ≠ 0x01) : parseBool b = none := by
  unfold parseBool
  rw [if_neg h0, if_neg h1]

theorem parseMode_of_given {b : Byte} (h : b = 0x00 ∨ b = 0x01) :
    parseMode b = some (if b = 0x00 then .cancel else .transparent) := by
  rcases h with rfl | rfl <;> rfl

theorem byteOfNat_of_eq {b : Byte} {n : Nat} (h : b.toNat = n) : byteOfNat n = b := by
  rw [← h, byteOfNat, BitVec.ofNat_toNat, BitVec.setWidth_eq]

/-! ## Replacing one profile or one rule -/

theorem setProfile_get (s : State) (n m : ProfileNumber) (p : Profile) :
    (s.setProfile n p).settings.profiles.get m = if m = n then p else s.settings.profiles.get m := by
  simp only [State.setProfile, Vector.get_eq_getElem, Vector.getElem_set, Fin.ext_iff, eq_comm]

theorem setRule_eq (s : State) (n : RuleNumber) (rule : RouteRule) : s.setRule n rule =
    { s with
      settings :=
        { profiles := s.settings.profiles
          rules := Vector.ofFn fun m => if m = n then rule else s.settings.rules.get m } } := by
  have hrules : s.settings.rules.set n.val rule n.isLt =
      Vector.ofFn fun m => if m = n then rule else s.settings.rules.get m := by
    ext i hi
    simp only [Vector.getElem_set, Vector.getElem_ofFn, Fin.ext_iff, Vector.get_eq_getElem, eq_comm]
  rw [State.setRule, hrules]

/-! ## The clamping -/

theorem clampNat_eq_min_max {lo hi : Nat} (h : lo ≤ hi) (v : Nat) : clampNat lo hi v = min (max v lo) hi := by
  unfold clampNat
  split
  · omega
  · split <;> omega

theorem clampNat_zero (hi v : Nat) : clampNat 0 hi v = min v hi := by
  rw [clampNat_eq_min_max (Nat.zero_le hi), Nat.max_zero]

/-- Both passes at once (R167). -/
theorem clampProfile_eq (q : Profile) : clampProfile q =
    { searchOn := q.searchOn
      provisionalOffset := min q.provisionalOffset 960
      windowLimit := min q.windowLimit 3
      stepExponent := min (max q.stepExponent 1) 8
      regularisation := min (max q.regularisation 1) 65535
      referenceFloor := min q.referenceFloor 8191
      speechFloor := min (max q.speechFloor 1) 8191
      doubleTalkShift := min (max q.doubleTalkShift 1) 3
      nearHold := min q.nearHold 4095
      suppressorOn := q.suppressorOn
      suppressionDepth := min q.suppressionDepth 6
      comfortFillOn := q.comfortFillOn
      padIn := min (max q.padIn 1024) 16383
      padOut := min (max q.padOut 1024) 16383
      alcIn := q.alcIn
      alcOut := q.alcOut
      bandLow := min q.bandLow 32767
      bandHigh := max (min q.bandLow 32767) (min q.bandHigh 32767)
      gmin := min (min (max q.gmin 1024) 16383) (min (max q.gmax 1024) 16383)
      gmax := min (max q.gmax 1024) 16383
      toneBypassOn := q.toneBypassOn
      toneFloor := min (max q.toneFloor 1) 8191
      idleLimit := min q.idleLimit 600 } := by
  simp only [clampProfile, clampPairs, clampFields, clampNat_zero, clampNat_eq_min_max (show 1 ≤ 8 by decide),
    clampNat_eq_min_max (show 1 ≤ 65535 by decide), clampNat_eq_min_max (show 1 ≤ 8191 by decide),
    clampNat_eq_min_max (show 1 ≤ 3 by decide), clampNat_eq_min_max (show 1024 ≤ 16383 by decide)]

/-- A profile in range is not changed: each field lies in its own range, and the two pairs are consistent (R167). -/
theorem clampProfile_of_inRange {q : Profile} (h : q.InRange) : clampProfile q = q := by
  obtain ⟨hoffset, hlimit, ⟨hs, hs'⟩, ⟨hr, hr'⟩, hfloor, ⟨hspeech, hspeech'⟩, ⟨hd, hd'⟩, hhold, hdepth, ⟨hin, hin'⟩,
    ⟨hout, hout'⟩, ⟨hband, hband'⟩, ⟨hgmin, hg, hgmax⟩, ⟨htone, htone'⟩, hidle⟩ := profileInRange_iff.1 h
  have hfields : clampFields q = q := by
    unfold clampFields
    rw [clampNat_of_within (Nat.zero_le _) hoffset, clampNat_of_within (Nat.zero_le _) hlimit, clampNat_of_within hs hs',
      clampNat_of_within hr hr', clampNat_of_within (Nat.zero_le _) hfloor, clampNat_of_within hspeech hspeech',
      clampNat_of_within hd hd', clampNat_of_within (Nat.zero_le _) hhold, clampNat_of_within (Nat.zero_le _) hdepth,
      clampNat_of_within hin hin', clampNat_of_within hout hout',
      clampNat_of_within (Nat.zero_le _) (hband.trans hband'), clampNat_of_within (Nat.zero_le _) hband',
      clampNat_of_within hgmin (hg.trans hgmax), clampNat_of_within (hgmin.trans hg) hgmax,
      clampNat_of_within htone htone', clampNat_of_within (Nat.zero_le _) hidle]
  rw [clampProfile, hfields, clampPairs, max_eq_right hband, min_eq_left hg]

/-! ## The commands -/

/-- The yes/no bytes of a layout, by their places counted from 0 (R164, R166). -/
theorem layoutFlagsValid_eq (layout : List Byte) : layoutFlagsValid layout =
    [0, 14, 15, 20, 21, 30].all fun i => layout.getD i 0 == 0x00 || layout.getD i 0 == 0x01 := by
  simp only [layoutFlagsValid, parseBool_isSome]
  rfl

/-- A PROFILE_WRITE of a whole layout to a profile: the yes/no fields, then the reference count (R166, R167). -/
theorem doProfileWrite_of_number {number : Byte} {layout : List Byte} {n : ProfileNumber} (hlen : layout.length = 36)
    (hn : number.toNat = n.val) : doProfileWrite number layout s =
      if layoutFlagsValid layout = false then refusal s .badField
      else if s.refCounts.get n ≠ 0 then refusal s .profileInUse
      else
        { state := s.setProfile n (clampProfile (layoutProfile layout))
          status := if clampProfile (layoutProfile layout) = layoutProfile layout then .ok else .clamped
          results := [] } := by
  rw [doProfileWrite, if_neg (not_not.2 hlen), parseProfileNumber_of_eq hn]
  simp only [Bool.not_eq_true']
  rfl

/-- A rule as RULE_READ gives it (R169). -/
theorem ruleBytes_eq (rule : RouteRule) : ruleBytes rule =
    [if rule.enabled then 0x01 else 0x00, rule.base.extractLsb' 8 8, rule.base.extractLsb' 0 8,
      rule.mask.extractLsb' 8 8, rule.mask.extractLsb' 0 8, BitVec.ofNat 8 rule.profile.val,
      if rule.mode = .cancel then 0x00 else 0x01] := by
  have hmode : rule.mode.byte = if rule.mode = .cancel then 0x00 else 0x01 := by cases rule.mode <;> rfl
  rw [ruleBytes, hmode]
  rfl

/-- A RULE_WRITE whose numbers are in range and whose enabled and mode bytes are read (R170, check 4). -/
theorem doRuleWrite_of_reads {number enabled profile mode : Byte} {base mask : BitVec 16} {n : RuleNumber}
    {p : ProfileNumber} {on : Bool} {m : Mode} (hn : parseRuleNumber number = some n)
    (hp : parseProfileNumber profile = some p) (hon : parseBool enabled = some on) (hm : parseMode mode = some m) :
    doRuleWrite number enabled base mask profile mode s =
      if (s.settings.rules.get n).enabled = true ∧
          ({ enabled := on, base := base, mask := mask, profile := p, mode := m } : RouteRule) ≠
            { s.settings.rules.get n with enabled := false } then refusal s .ruleEnabled
      else
        { state := s.setRule n { enabled := on, base := base, mask := mask, profile := p, mode := m }
          status := .ok
          results := [] } := by
  simp only [doRuleWrite, hn, hp, hon, hm, Bool.and_eq_true, Bool.not_eq_true', decide_eq_false_iff_not]
  rfl

/-- A RULE_WRITE with an enabled or a mode byte that is not read (R170, check 3). -/
theorem doRuleWrite_unreadable {number enabled profile mode : Byte} {base mask : BitVec 16} {n : RuleNumber}
    {p : ProfileNumber} (hn : parseRuleNumber number = some n) (hp : parseProfileNumber profile = some p)
    (h : parseBool enabled = none ∨ parseMode mode = none) :
    doRuleWrite number enabled base mask profile mode s = refusal s .badField := by
  unfold doRuleWrite
  rw [hn, hp]
  rcases h with h | h
  · rw [h]
    rfl
  · rw [h]
    cases parseBool enabled <;> rfl

end Sys2Proof.Machine

open Sys2Proof Sys2Proof.Machine

/-- Settles O41: the checks in their order, and the two passes of the clamping at once. -/
theorem profileReadAndWrite : Obligations.ProfileReadAndWrite := by
  refine ⟨fun s number layout hrun => ⟨fun hn => ⟨?_, fun hlen => ?_⟩, fun hlen => ?_, fun n hn => ⟨?_, fun hlen => ?_⟩⟩,
    fun q => ⟨clampProfile_inRange q, clampProfile_of_inRange, clampProfile_eq q⟩⟩
  · exact takeCommand_eq hrun (by simp only [doProfileRead, parseProfileNumber_of_ge hn]; rfl)
  · exact takeCommand_eq hrun (by rw [doProfileWrite, if_neg (not_not.2 hlen), parseProfileNumber_of_ge hn]; rfl)
  · exact takeCommand_eq hrun (by rw [doProfileWrite, if_pos hlen]; rfl)
  · exact takeCommand_eq hrun (by simp only [doProfileRead, parseProfileNumber_of_eq hn, byteOfNat_of_eq hn]; rfl)
  · dsimp only
    rw [← layoutFlagsValid_eq]
    have hwrite := doProfileWrite_of_number (s := s) hlen hn
    refine ⟨fun hflags => takeCommand_eq hrun ?_, fun hflags href => takeCommand_eq hrun ?_, fun hflags href =>
      ⟨s.setProfile n (clampProfile (layoutProfile layout)), takeCommand_eq hrun ?_, ?_, fun m hm => ?_, rfl, rfl⟩⟩
    · rw [hwrite, if_pos hflags]
    · rw [hwrite, if_neg (by simp [hflags]), if_pos href]
    · rw [hwrite, if_neg (by simp [hflags]), if_neg (not_not.2 href)]
    · rw [setProfile_get, if_pos rfl]
    · rw [setProfile_get, if_neg hm]

/-- Settles O43: the numbers, then the yes/no and mode bytes, then the rule that stands. -/
theorem ruleCommands : Obligations.RuleCommands := by
  refine fun s number setting profile mode base mask hrun => ⟨fun hn => ?_, fun n hn => ?_⟩
  · have hnone := parseRuleNumber_of_ge hn
    exact ⟨takeCommand_eq hrun (by simp only [doRuleRead, hnone]; rfl),
      takeCommand_eq hrun (by simp only [doRuleEnable, hnone]; rfl),
      takeCommand_eq hrun (by simp only [doRuleWrite, hnone]; rfl)⟩
  have hsome := parseRuleNumber_of_eq hn
  refine ⟨takeCommand_eq hrun ?_, fun h0 h1 => takeCommand_eq hrun ?_, fun hset => takeCommand_eq hrun ?_,
    fun hp => takeCommand_eq hrun ?_, fun p hp => ⟨fun hbad => takeCommand_eq hrun ?_, fun hset hmode => ?_⟩⟩
  · simp only [doRuleRead, hsome, byteOfNat_of_eq hn, ruleBytes_eq]
    rfl
  · simp only [doRuleEnable, hsome, parseBool_of_other h0 h1]
    rfl
  · simp only [doRuleEnable, hsome, parseBool_gainReset hset, setRule_eq]
  · simp only [doRuleWrite, hsome, parseProfileNumber_of_ge hp]
    rfl
  · exact doRuleWrite_unreadable hsome (parseProfileNumber_of_eq hp)
      (hbad.imp (fun h => parseBool_of_other h.1 h.2) fun h => parseMode_of_other h.1 h.2)
  · have hwrite := doRuleWrite_of_reads (s := s) (base := base) (mask := mask) hsome (parseProfileNumber_of_eq hp)
      (parseBool_gainReset hset) (parseMode_of_given hmode)
    refine ⟨fun hon hne => takeCommand_eq hrun ?_, fun hoff => takeCommand_eq hrun ?_⟩
    · rw [hwrite, if_pos ⟨hon, hne⟩]
    · rw [hwrite, if_neg, setRule_eq]
      rintro ⟨hon, hne⟩
      exact hoff.elim (fun h => absurd hon (by simp [h])) hne
end

section
/-! SUPPORT. The 36-byte layout read and written (O42). -/

namespace Sys2Proof.Machine

/-! ## What is read of a layout -/

variable {layout : List Byte} {n v : Nat}

/-- A two-byte number is read as it was written (R164). -/
theorem layoutWord_of_bytes (hhigh : layoutByte layout n = byteOfNat (v / 256))
    (hlow : layoutByte layout (n + 1) = byteOfNat v) (hv : v ≤ 65535) : layoutWord layout n = v := by
  have hbytes : wordOf (byteOfNat (v / 256)) (byteOfNat v) = BitVec.ofNat 16 v := by
    obtain ⟨high, low, hword⟩ := exists_wordOf (BitVec.ofNat 16 v)
    have hfield : [high, low] = twoBytes v := by rw [← wordBytes_wordOf, ← hword, ← natBytes2_eq, natBytes2]
    obtain ⟨rfl, rfl⟩ : high = byteOfNat (v / 256) ∧ low = byteOfNat v := by simpa [twoBytes, byteOfNat] using hfield
    exact hword.symm
  rw [layoutWord, hhigh, hlow, hbytes, BitVec.toNat_ofNat]
  omega

/-- A one-byte number is read as it was written (R164). -/
theorem layoutByte_toNat_of_byte (h : layoutByte layout n = byteOfNat v) (hv : v ≤ 255) :
    (layoutByte layout n).toNat = v := by
  rw [h, byteOfNat, BitVec.toNat_ofNat]
  omega

/-- A yes/no field is read as it was written (R164). -/
theorem layoutByte_beq_of_boolByte {b : Bool} (h : layoutByte layout n = boolByte b) :
    (layoutByte layout n == 0x01) = b := by
  rw [h]
  cases b <;> rfl

/-! ## What is written of a layout read -/

theorem natBytes2_layoutWord (layout : List Byte) (n : Nat) :
    natBytes2 (layoutWord layout n) = [layoutByte layout n, layoutByte layout (n + 1)] := by
  rw [natBytes2, layoutWord, BitVec.ofNat_toNat, BitVec.setWidth_eq, wordBytes_wordOf]

theorem byteOfNat_toNat (b : Byte) : byteOfNat b.toNat = b := byteOfNat_of_eq rfl

theorem boolByte_beq {b : Byte} (h : (parseBool b).isSome = true) : boolByte (b == 0x01) = b := by
  rw [parseBool_isSome, Bool.or_eq_true, beq_iff_eq, beq_iff_eq] at h
  rcases h with rfl | rfl <;> rfl

/-- A layout is its 36 bytes, one after another. -/
theorem layoutBytes_eq (h : layout.length = 36) :
    (List.range 36).map (fun i => layoutByte layout (i + 1)) = layout := by
  refine List.ext_getElem (by simp [h]) fun i _ hi => ?_
  simp [layoutByte, List.getD_eq_getElem?_getD, hi]

/-! ## Both ways -/

/-- The layout byte by byte (R164). -/
theorem profileBytes_eq (p : Profile) : profileBytes p =
    [boolByte p.searchOn, byteOfNat (p.provisionalOffset / 256), byteOfNat p.provisionalOffset,
      byteOfNat p.windowLimit, byteOfNat p.stepExponent, byteOfNat (p.regularisation / 256), byteOfNat p.regularisation,
      byteOfNat (p.referenceFloor / 256), byteOfNat p.referenceFloor, byteOfNat (p.speechFloor / 256),
      byteOfNat p.speechFloor, byteOfNat p.doubleTalkShift, byteOfNat (p.nearHold / 256), byteOfNat p.nearHold,
      boolByte p.suppressorOn, boolByte p.comfortFillOn, byteOfNat (p.padIn / 256), byteOfNat p.padIn,
      byteOfNat (p.padOut / 256), byteOfNat p.padOut, boolByte p.alcIn, boolByte p.alcOut, byteOfNat (p.bandLow / 256),
      byteOfNat p.bandLow, byteOfNat (p.bandHigh / 256), byteOfNat p.bandHigh, byteOfNat (p.gmin / 256), byteOfNat p.gmin,
      byteOfNat (p.gmax / 256), byteOfNat p.gmax, boolByte p.toneBypassOn, byteOfNat (p.toneFloor / 256),
      byteOfNat p.toneFloor, byteOfNat (p.idleLimit / 256), byteOfNat p.idleLimit, byteOfNat p.suppressionDepth] := by
  unfold profileBytes
  simp only [natBytes2_eq, twoBytes, List.cons_append, List.nil_append]
  rfl

theorem profileBytes_flagsValid (p : Profile) : layoutFlagsValid (profileBytes p) = true := by
  rw [layoutFlagsValid_eq, profileBytes_eq]
  change ([p.searchOn, p.suppressorOn, p.comfortFillOn, p.alcIn, p.alcOut, p.toneBypassOn].all fun b =>
    boolByte b == 0x00 || boolByte b == 0x01) = true
  exact List.all_eq_true.2 fun b _ => by cases b <;> rfl

/-- A profile in range is read back whole: each number fits its one or two bytes (R162, R164). -/
theorem layoutProfile_profileBytes {p : Profile} (h : p.InRange) : layoutProfile (profileBytes p) = p := by
  obtain ⟨hoffset, hlimit, ⟨-, hs⟩, ⟨-, hr⟩, hfloor, ⟨-, hspeech⟩, ⟨-, hd⟩, hhold, hdepth, ⟨-, hin⟩, ⟨-, hout⟩,
    ⟨hband, hhigh⟩, ⟨-, hg, hgmax⟩, ⟨-, htone⟩, hidle⟩ := profileInRange_iff.1 h
  rw [profileBytes_eq]
  exact (Profile.mk.injEq ..).mpr ⟨layoutByte_beq_of_boolByte rfl, layoutWord_of_bytes rfl rfl (by omega),
    layoutByte_toNat_of_byte rfl (by omega), layoutByte_toNat_of_byte rfl (by omega),
    layoutWord_of_bytes rfl rfl (by omega), layoutWord_of_bytes rfl rfl (by omega),
    layoutWord_of_bytes rfl rfl (by omega), layoutByte_toNat_of_byte rfl (by omega),
    layoutWord_of_bytes rfl rfl (by omega), layoutByte_beq_of_boolByte rfl, layoutByte_toNat_of_byte rfl (by omega),
    layoutByte_beq_of_boolByte rfl, layoutWord_of_bytes rfl rfl (by omega), layoutWord_of_bytes rfl rfl (by omega),
    layoutByte_beq_of_boolByte rfl, layoutByte_beq_of_boolByte rfl, layoutWord_of_bytes rfl rfl (by omega),
    layoutWord_of_bytes rfl rfl (by omega), layoutWord_of_bytes rfl rfl (by omega),
    layoutWord_of_bytes rfl rfl (by omega), layoutByte_beq_of_boolByte rfl, layoutWord_of_bytes rfl rfl (by omega),
    layoutWord_of_bytes rfl rfl (by omega)⟩

/-- A layout is written back whole: each byte is one of a number's, or a yes/no byte (R164). -/
theorem profileBytes_layoutProfile (hlen : layout.length = 36) (hflags : layoutFlagsValid layout = true) :
    profileBytes (layoutProfile layout) = layout := by
  have flag {n : Nat} (hn : n ∈ [1, 15, 16, 21, 22, 31]) :
      boolByte (layoutByte layout n == 0x01) = layoutByte layout n := boolByte_beq (List.all_eq_true.1 hflags n hn)
  calc profileBytes (layoutProfile layout)
      = (List.range 36).map fun i => layoutByte layout (i + 1) := by
        unfold profileBytes
        simp only [layoutProfile, natBytes2_layoutWord, byteOfNat_toNat,
          flag (n := 1) (by decide), flag (n := 15) (by decide), flag (n := 16) (by decide), flag (n := 21) (by decide),
          flag (n := 22) (by decide), flag (n := 31) (by decide), List.cons_append, List.nil_append]
        rfl
    _ = layout := layoutBytes_eq hlen

end Sys2Proof.Machine

open Sys2Proof Sys2Proof.Machine

/-- Settles O42: the layout's bytes, and each field read and written by its own bytes. -/
theorem profileLayoutRoundTrip : Obligations.ProfileLayoutRoundTrip :=
  ⟨profileBytes_eq,
    fun p h => ⟨by rw [profileBytes_eq]; rfl, profileBytes_flagsValid p, layoutProfile_profileBytes h⟩,
    fun _ => profileBytes_layoutProfile⟩
end

section
/-! SUPPORT. The settings store (O44). -/

namespace Sys2Proof.Machine

variable {s : State}

theorem exec_storeComplete (hrun : s.running = true) (verified : Bool) :
    exec (.storeComplete verified) s = .next (s.completeStore verified) :=
  whileRunning_of_running hrun fun s => s.completeStore verified

theorem exec_powerLoss (hrun : s.running = true) : exec .powerLoss s = .next { s.cutStore with powered := false } :=
  congrArg Host.Outcome.next (if_pos ((running_iff s).1 hrun).1)

theorem completeStore_of_inFlight {snapshot : Settings} (h : s.store.inFlight = some snapshot) (verified : Bool) :
    s.completeStore verified =
      if verified then (s.commitStore snapshot).raise .storeDone else (s.tearStore snapshot).raise .storeFailed := by
  rw [State.completeStore, h]

theorem completeStore_of_idle (h : s.store.inFlight = none) (verified : Bool) : s.completeStore verified = s := by
  rw [State.completeStore, h]

theorem cutStore_of_inFlight {snapshot : Settings} (h : s.store.inFlight = some snapshot) :
    s.cutStore = s.tearStore snapshot := by
  rw [State.cutStore, h]

theorem cutStore_of_idle (h : s.store.inFlight = none) : s.cutStore = s := by
  rw [State.cutStore, h]

end Sys2Proof.Machine

open Sys2Proof Sys2Proof.Machine

/-- Settles O44: the checks of STORE and LOAD in their order; then the end of a write, with one in flight and without. -/
theorem storeAndLoad : Obligations.StoreAndLoad := by
  refine fun s hrun => ⟨fun hbusy => takeCommand_eq hrun ?_, fun hidle hworn => takeCommand_eq hrun ?_,
    fun hidle hwear => takeCommand_eq hrun ?_, fun hlive => takeCommand_eq hrun ?_,
    fun hempty hbusy => takeCommand_eq hrun ?_, fun hempty hidle hvalid => takeCommand_eq hrun ?_,
    fun hempty hidle hinvalid => takeCommand_eq hrun ?_, fun snapshot hflight => ⟨?_, ?_, ?_⟩,
    fun hidle => ⟨fun verified => ?_, ?_⟩⟩
  · rw [doStore, if_pos (Option.isSome_iff_ne_none.2 hbusy)]
    rfl
  · rw [doStore, if_neg (by simp [hidle]), if_pos hworn]
    rfl
  · rw [doStore, if_neg (by simp [hidle]), if_neg (by omega)]
  · rw [doLoad, if_pos hlive]
    rfl
  · rw [doLoad, if_neg (not_not.2 hempty), if_pos (Option.isSome_iff_ne_none.2 hbusy)]
    rfl
  · rw [doLoad, if_neg (not_not.2 hempty), if_neg (by simp [hidle]), State.loadWorking, if_pos hvalid, hvalid]
    rfl
  · rw [doLoad, if_neg (not_not.2 hempty), if_neg (by simp [hidle]), State.loadWorking, if_neg (by simp [hinvalid]),
      hinvalid]
    rfl
  · rw [exec_storeComplete hrun, completeStore_of_inFlight hflight]
    rfl
  · rw [exec_storeComplete hrun, completeStore_of_inFlight hflight]
    rfl
  · rw [exec_powerLoss hrun, cutStore_of_inFlight hflight]
    rfl
  · rw [exec_storeComplete hrun, completeStore_of_idle hidle]
  · rw [exec_powerLoss hrun, cutStore_of_idle hidle]
end

section
/-! SUPPORT. What no command touches: the supply, the reset pin and the Control Line Port. -/

namespace Sys2Proof.Machine

variable {s t u : State} {id : Identity}

/-- The supply, the reset pin and the Control Line Port are as before. -/
structure LineKept (s t : State) : Prop where
  powered : t.powered = s.powered
  resetHeld : t.resetHeld = s.resetHeld
  port : t.port = s.port

theorem LineKept.refl (s : State) : LineKept s s := ⟨rfl, rfl, rfl⟩

theorem LineKept.trans (h : LineKept s t) (k : LineKept t u) : LineKept s u :=
  ⟨k.powered.trans h.powered, k.resetHeld.trans h.resetHeld, k.port.trans h.port⟩

theorem LineKept.of_sameApart (h : s.SameApart t) : LineKept s t := by
  rw [h]
  exact ⟨rfl, rfl, rfl⟩

theorem update_lineKept (s : State) (id : Identity) (f : Record → Record) : LineKept s (s.update id f) := ⟨rfl, rfl, rfl⟩

theorem TableMove.lineKept {T : Prop} (h : TableMove T s t) : LineKept s t := by
  rw [h.apart]
  exact ⟨rfl, rfl, rfl⟩

theorem LineKept.running (h : LineKept s t) : t.running = s.running := by
  rw [State.running, h.powered, h.resetHeld, State.running]

/-! ## The record commands -/

theorem beginCancel_lineKept (s : State) (id : Identity) (p : Profile) : LineKept s (s.beginCancel id p) := by
  have claim := claimProvisional_poolOnly s id p.provisionalOffset
  have hclaim : LineKept s (s.claimProvisional id p.provisionalOffset) := ⟨claim.powered, claim.resetHeld, claim.port⟩
  unfold State.beginCancel
  split
  · dsimp only
    split
    · exact hclaim.trans (.of_sameApart (request_sameApart _ _ _))
    · exact hclaim
  · exact .refl s

theorem doAttach_lineKept (s : State) (position profile mode : Byte) :
    LineKept s (doAttach id position profile mode s).state := by
  unfold doAttach
  split <;> try exact .refl s
  rename_i pos number m _ _ _
  split
  · exact .refl s
  split
  · exact .refl s
  split
  · exact ⟨rfl, rfl, rfl⟩
  generalize chooseProfile s.settings id number m = choice
  have entered (r : Record) : LineKept s ((s.retireAt pos).enter r) := by
    rw [enter_retireAt]
    exact ⟨rfl, rfl, rfl⟩
  simp only [attachAt]
  split
  · exact (entered _).trans (beginCancel_lineKept _ _ _)
  · exact entered _

theorem doDetach_lineKept (s : State) (id : Identity) : LineKept s (doDetach id s).state := by
  unfold doDetach
  split
  · exact .refl s
  · rename_i r hr
    exact (TableMove.detach (T := False) r (by rwa [(recordOf_some hr).2])).lineKept

theorem changeMode_lineKept (s : State) (id : Identity) (mode : Option Mode) : LineKept s (s.changeMode id mode).1 := by
  unfold State.changeMode
  split
  · split
    · exact .refl s
    · exact .of_sameApart (makeTransparent_apart s id)
  · rename_i r _
    split
    · exact (update_lineKept s id settlingRecord).trans (beginCancel_lineKept _ id (s.profileOf r))
    · exact .refl s
  · exact .refl s

theorem doModify_lineKept (s : State) (mode freeze profile : Byte) (padIn padOut : BitVec 16) (gainReset : Byte) :
    LineKept s (doModify id mode freeze profile padIn padOut gainReset s).state := by
  unfold doModify
  split
  · exact .refl s
  rename_i number _
  split
  · split
    · exact .refl s
    · rename_i r hr
      split
      · exact .refl s
      · rw [modifyRecord_eq]
        have profiled : LineKept s (s.reprofile r number) := by
          cases number with
          | none => exact .refl s
          | some n => exact (TableMove.changeProfile (T := False) r n (by rwa [(recordOf_some hr).2])).lineKept
        exact (profiled.trans (update_lineKept _ _ _)).trans (changeMode_lineKept _ _ _)
  · exact .refl s

theorem doRebind_lineKept (s : State) (id : Identity) (position : Byte) : LineKept s (doRebind id position s).state := by
  unfold doRebind
  split
  · exact .refl s
  split
  · exact .refl s
  split
  · exact .refl s
  split <;> exact ⟨rfl, rfl, rfl⟩

theorem doMoveLine_lineKept (s : State) (fromLine toLine : Byte) : LineKept s (doMoveLine fromLine toLine s).state := by
  unfold doMoveLine
  split
  · split
    · exact .refl s
    · split <;> exact ⟨rfl, rfl, rfl⟩
  · exact .refl s

theorem doResearch_lineKept (s : State) (id : Identity) (lane : Byte) : LineKept s (doResearch id lane s).state := by
  unfold doResearch
  split
  · exact .refl s
  split
  · exact .refl s
  split
  · exact .refl s
  split
  · exact .refl s
  · exact .of_sameApart (request_sameApart s _ id)

theorem doAckAlarms_lineKept (s : State) (id : Identity) (alarms : Byte) :
    LineKept s (doAckAlarms id alarms s).state := by
  unfold doAckAlarms
  split
  · exact .refl s
  · split <;> exact ⟨rfl, rfl, rfl⟩

/-! ## The other commands -/

theorem doProfileWrite_lineKept (s : State) (number : Byte) (layout : List Byte) :
    LineKept s (doProfileWrite number layout s).state := by
  unfold doProfileWrite
  split
  · exact .refl s
  split
  · exact .refl s
  split
  · exact .refl s
  split <;> exact ⟨rfl, rfl, rfl⟩

theorem doRuleWrite_lineKept (s : State) (number enabled : Byte) (base mask : BitVec 16) (profile mode : Byte) :
    LineKept s (doRuleWrite number enabled base mask profile mode s).state := by
  unfold doRuleWrite
  split
  · exact .refl s
  · exact .refl s
  · dsimp only
    split <;> exact ⟨rfl, rfl, rfl⟩
  · exact .refl s

theorem doStore_lineKept (s : State) : LineKept s (doStore s).state := by
  unfold doStore
  split
  · exact .refl s
  · split <;> exact ⟨rfl, rfl, rfl⟩

theorem doLoad_lineKept (s : State) : LineKept s (doLoad s).state := by
  obtain ⟨c, e, h, -⟩ := loadWorking_shape s
  unfold doLoad
  rw [h]
  split
  · exact .refl s
  · split <;> exact ⟨rfl, rfl, rfl⟩

theorem doTally_lineKept (s : State) (selector : Byte) (id : Identity) (clear : Byte) :
    LineKept s (doTally selector id clear s).state := by
  unfold doTally
  split
  · split <;> exact ⟨rfl, rfl, rfl⟩
  · dsimp only
    split <;> exact ⟨rfl, rfl, rfl⟩
  · exact .refl s

/-- Carrying out a command leaves the line alone: its reply is another matter (R180). -/
theorem carryOut_lineKept (i : Instr) (s : State) : LineKept s (carryOut i s).state := by
  cases i with
  | attach id position profile mode => exact doAttach_lineKept s position profile mode
  | detach id => exact doDetach_lineKept s id
  | modify id mode freeze profile padIn padOut gainReset =>
    exact doModify_lineKept s mode freeze profile padIn padOut gainReset
  | rebind id position => exact doRebind_lineKept s id position
  | moveLine a b => exact doMoveLine_lineKept s a b
  | research id lane => exact doResearch_lineKept s id lane
  | look id => simp only [carryOut, doLook]; split <;> exact .refl s
  | lookWindow id index =>
    simp only [carryOut, doLookWindow]
    split
    · exact .refl s
    · split <;> exact .refl s
  | find position =>
    simp only [carryOut, doFind]
    split
    · exact .refl s
    · split <;> exact .refl s
  | list states alarms start => simp only [carryOut, doList]; split <;> exact .refl s
  | ackAlarms id alarms => exact doAckAlarms_lineKept s id alarms
  | profileRead number => simp only [carryOut, doProfileRead]; split <;> exact .refl s
  | profileWrite number layout => exact doProfileWrite_lineKept s number layout
  | ruleRead number => simp only [carryOut, doRuleRead]; split <;> exact .refl s
  | ruleWrite number enabled base mask profile mode => exact doRuleWrite_lineKept s number enabled base mask profile mode
  | ruleEnable number setting => simp only [carryOut, doRuleEnable]; split <;> exact ⟨rfl, rfl, rfl⟩
  | store => exact doStore_lineKept s
  | load => exact doLoad_lineKept s
  | tally selector id clear => exact doTally_lineKept s selector id clear
  | ackEvents | setMask | restart => exact ⟨rfl, rfl, rfl⟩
  | events | ident | reset | frameSync | blockEnd | promotion | pathChange | entryToBypass | returnFromBypass | idleLapse
  | searchComplete | searchTimeout | storeComplete | commandFrameReceived | interByteGap | overrun | replySent
  | characterFault | powerLoss => exact .refl s

end Sys2Proof.Machine
end

section
/-! SUPPORT. Reply frames and their check byte (O48). -/

namespace Sys2Proof.Machine

/-- The check byte brings the sum of a frame's bytes after the sync byte to 0 (R176). -/
theorem byteSum_append_check (bytes : List Byte) : byteSum (bytes ++ [0 - byteSum bytes]) = 0 := by
  have hsplit : byteSum (bytes ++ [0 - byteSum bytes]) = byteSum bytes + (0 - byteSum bytes) := List.foldl_append
  rw [hsplit]
  generalize byteSum bytes = b
  bv_omega

theorem replyHead_eq : ∀ address : BitVec 4, ((0x8 : BitVec 4) ++ address : Byte) = 0x80#8 ||| address.setWidth 8 := by
  decide

/-- A reply frame between its sync byte and its check byte (R176, R180). -/
def replyBytes (address : BitVec 4) (code status : Byte) (results : List Byte) : List Byte :=
  [0x80#8 ||| address.setWidth 8, BitVec.ofNat 8 (results.length + 2), code, status] ++ results

theorem replyFrame_eq (address : BitVec 4) (code : Byte) (status : Status) (results : List Byte) :
    replyFrame address code status results =
      syncByte :: (replyBytes address code status.byte results ++
        [0 - byteSum (replyBytes address code status.byte results)]) := by
  rw [replyFrame, frameBytes, replyHead_eq]
  rfl

theorem respond_of_silent {code : Byte} {a : Answer} (h : a.state.port.address = 15) : respond code a = a.state :=
  if_pos h

/-- The reply of an answer whose status has a given value, with its check byte (R176, R180). -/
theorem respond_frame {code status : Byte} {a : Answer} (h15 : a.state.port.address ≠ 15) (hs : a.status.byte = status) :
    ∃ check : Byte,
      let body := replyBytes a.state.port.address code status a.results ++ [check]
      (body.map (·.toNat)).sum % 256 = 0 ∧
      respond code a = { a.state with port := { a.state.port with reply := some (syncByte :: body) } } := by
  subst hs
  refine ⟨0 - byteSum (replyBytes a.state.port.address code a.status.byte a.results), ?_, ?_⟩
  · exact (byteSum_toNat _).symm.trans (congrArg BitVec.toNat (byteSum_append_check _))
  · rw [respond, if_neg h15, replyFrame_eq]

end Sys2Proof.Machine

open Sys2Proof Sys2Proof.Machine

/-- Settles O48: the status value of the reply is read off R180's list, status by status. -/
theorem replyIsFramed : Obligations.ReplyIsFramed := fun _ a _ =>
  ⟨respond_of_silent, fun h15 => respond_frame h15 (by cases a.status <;> rfl)⟩
end

section
/-! SUPPORT. A frame as the port gathers it: it is assembled, or discarded while the unit is busy, up to the byte that ends
it (O51 to O53). -/

namespace Sys2Proof.Machine

variable {s : State}

theorem exec_commandFrameReceived (hrun : s.running = true) (bytes : List Byte) :
    exec (.commandFrameReceived bytes) s = .next (s.hearAll bytes) :=
  whileRunning_of_running hrun fun s => s.hearAll bytes

/-! ## How far a frame has come -/

theorem frameProgress_eq_more_iff {bytes : List Byte} : frameProgress bytes = .more ↔
    bytes.length < 3 ∨ 1 ≤ frameLength bytes ∧ frameLength bytes ≤ 200 ∧ bytes.length < frameLength bytes + 4 := by
  unfold frameProgress
  split
  · exact iff_of_true rfl (.inl ‹_›)
  split
  · exact iff_of_false FrameProgress.noConfusion (by omega)
  split
  · exact iff_of_true rfl (.inr ⟨by omega, by omega, ‹_›⟩)
  · exact iff_of_false FrameProgress.noConfusion (by omega)

theorem frameProgress_of_badLength {bytes : List Byte} (h3 : 3 ≤ bytes.length)
    (h : frameLength bytes = 0 ∨ 200 < frameLength bytes) : frameProgress bytes = .badLength := by
  rw [frameProgress, if_neg (by omega), if_pos h]

/-- A frame that is not at its end was not at its end before (R177). -/
theorem frameProgress_of_append {bytes more : List Byte} (h : frameProgress (bytes ++ more) = .more) :
    frameProgress bytes = .more := by
  rw [frameProgress_eq_more_iff] at h ⊢
  rw [List.length_append] at h
  by_cases h3 : bytes.length < 3
  · exact .inl h3
  · rw [frameLength_append (by omega)] at h
    omega

/-! ## Gathering -/

/-- A side of hearing that gathers the bytes of a frame: assembling them, or discarding them (R177, R178). -/
def Gathers (h : List Byte → Hearing) : Prop :=
  ∀ (s : State) (bytes : List Byte) (b : Byte), frameProgress (bytes ++ [b]) = .more →
    (s.setHearing (h bytes)).hear b = s.setHearing (h (bytes ++ [b]))

theorem gathers_assembling : Gathers .assembling := fun s bytes _ h =>
  hear_of_more (s := s.setHearing (.assembling bytes)) rfl h

theorem hear_of_discarded {bytes : List Byte} {b : Byte} (hs : s.port.hearing = .discarding bytes)
    (h : frameProgress (bytes ++ [b]) = .more) : s.hear b = s.setHearing (.discarding (bytes ++ [b])) := by
  simp only [State.hear, hs, h]

theorem gathers_discarding : Gathers .discarding := fun s bytes _ h =>
  hear_of_discarded (s := s.setHearing (.discarding bytes)) rfl h

theorem hearAll_of_gathers {h : List Byte → Hearing} (hh : Gathers h) (s : State) {bytes more : List Byte}
    (hmore : frameProgress (bytes ++ more) = .more) :
    (s.setHearing (h bytes)).hearAll more = s.setHearing (h (bytes ++ more)) := by
  induction more generalizing bytes with
  | nil => rw [List.append_nil]; rfl
  | cons b rest ih =>
    rw [← List.singleton_append, ← List.append_assoc] at hmore ⊢
    change ((s.setHearing (h bytes)).hear b).hearAll rest = _
    rw [hh s bytes b (frameProgress_of_append hmore)]
    exact ih hmore

/-- An overrun counted (R178). -/
def State.countOverrun (s : State) : State :=
  { s with part := { s.part with overruns := min 65535 (s.part.overruns + 1) } }

/-- A hunting port after a sync byte and more bytes of a frame: it assembles them, or while the unit is busy has counted
an overrun and discards them (R177, R178). -/
def State.gathering (s : State) (bytes : List Byte) : State :=
  if s.port.reply = none then s.setHearing (.assembling bytes) else s.countOverrun.setHearing (.discarding bytes)

theorem hear_sync (hhear : s.port.hearing = .hunting) : s.hear syncByte = s.gathering [syncByte] := by
  unfold State.hear State.gathering
  rw [hhear]
  dsimp only
  rw [if_pos rfl]
  cases hreply : s.port.reply with
  | none => simp only [State.isBusy, hreply, Option.isSome_none, Bool.false_eq_true, if_false, if_true]
  | some reply =>
    simp only [State.isBusy, hreply, Option.isSome_some, if_true, reduceCtorEq, if_false]
    rfl

theorem hearAll_gathering {bytes more : List Byte} (h : frameProgress (bytes ++ more) = .more) :
    (s.gathering bytes).hearAll more = s.gathering (bytes ++ more) := by
  unfold State.gathering
  split
  · exact hearAll_of_gathers gathers_assembling s h
  · exact hearAll_of_gathers gathers_discarding s.countOverrun h

/-- A frame heard up to a byte that does not end it (R177, R178). -/
theorem hearAll_part (hhear : s.port.hearing = .hunting) {rest : List Byte}
    (h : frameProgress (syncByte :: rest) = .more) : s.hearAll (syncByte :: rest) = s.gathering (syncByte :: rest) := by
  change (s.hear syncByte).hearAll rest = _
  rw [hear_sync hhear]
  exact hearAll_gathering h

/-! ## The byte that ends a frame -/

/-- A line fault of a port that hunts already (R177). -/
theorem lineFault_of_hunting (hhear : s.port.hearing = .hunting) : s.lineFault =
    { s with
      part := { s.part with lineFaults := min 65535 (s.part.lineFaults + 1) }
      summary := s.summary ||| 0x80 } :=
  setHearing_self (s := { s with
    part := { s.part with lineFaults := min 65535 (s.part.lineFaults + 1) }
    summary := s.summary ||| 0x80 }) hhear

theorem hear_of_badLength {bytes : List Byte} {b : Byte} (hs : s.port.hearing = .assembling bytes)
    (h : frameProgress (bytes ++ [b]) = .badLength) : s.hear b = s.lineFault := by
  simp only [State.hear, hs, h]

theorem frameProgress_header {head length : Byte} (h : length.toNat = 0 ∨ 200 < length.toNat) :
    frameProgress [syncByte, head, length] = .badLength :=
  frameProgress_of_badLength (by simp) h

/-- A frame with a bad length byte, heard by a port that hunts and is not busy (R177). -/
theorem hearAll_badLength (hhear : s.port.hearing = .hunting) (hreply : s.port.reply = none) {head length : Byte}
    (h : length.toNat = 0 ∨ 200 < length.toNat) : s.hearAll [syncByte, head, length] = s.lineFault := by
  change (s.hearAll [syncByte, head]).hear length = _
  rw [hearAll_part hhear rfl, State.gathering, if_pos hreply]
  exact hear_of_badLength (s := s.setHearing (.assembling [syncByte, head])) rfl (frameProgress_header h)

/-- A discarded frame ends without a trace (R178). -/
theorem hear_of_discarded_end {bytes : List Byte} {b : Byte} (hs : s.port.hearing = .discarding bytes)
    (h : frameProgress (bytes ++ [b]) ≠ .more) : s.hear b = s.setHearing .hunting := by
  unfold State.hear
  rw [hs]
  dsimp only
  split
  · exact absurd ‹_› h
  · rfl
  · rfl

/-- A frame heard to its end while the unit is busy is counted and lost (R178). -/
theorem hearAll_overrun (hhear : s.port.hearing = .hunting) (hbusy : s.port.reply ≠ none) {rest : List Byte} {last : Byte}
    (hpart : frameProgress (syncByte :: rest) = .more) (hend : frameProgress (syncByte :: rest ++ [last]) ≠ .more) :
    s.hearAll (syncByte :: rest ++ [last]) = s.countOverrun := by
  rw [State.hearAll_append, hearAll_part hhear hpart, State.gathering, if_neg hbusy]
  exact (hear_of_discarded_end (s := s.countOverrun.setHearing _) rfl hend).trans
    (setHearing_self (s := s.countOverrun) hhear)

end Sys2Proof.Machine
end

section
/-! SUPPORT. Frames judged: broadcasts, and commands that are none (O50, O51). -/

namespace Sys2Proof.Machine

variable {s : State} {bytes : List Byte}

/-! ## By check, kind and address -/

theorem judgeFrame_badCheck (h : byteSum (bytes.drop 1) ≠ 0) : s.judgeFrame bytes = s.lineFault := if_pos h

theorem judgeFrame_otherKind (hhear : s.port.hearing = .hunting) (hsum : byteSum (bytes.drop 1) = 0)
    (h : frameKind bytes ≠ 0) : s.judgeFrame bytes = s := by
  rw [State.judgeFrame, if_neg (not_not.2 hsum), if_pos h, setHearing_self hhear]

/-- A frame of the command kind, by its address (R177, R179). -/
theorem judgeFrame_commandKind (hhear : s.port.hearing = .hunting) (hsum : byteSum (bytes.drop 1) = 0)
    (h : frameKind bytes = 0) : s.judgeFrame bytes =
      if frameAddress bytes = 15 then s.takeBroadcast (frameCode bytes) (frameParameters bytes)
      else if frameAddress bytes = s.port.address then s.takeAddressed (frameCode bytes) (frameParameters bytes)
      else s := by
  rw [State.judgeFrame, if_neg (not_not.2 hsum), if_neg (not_not.2 h), setHearing_self hhear]

/-! ## Broadcasts -/

variable {i : Instr} {code check : Byte} {parameters : List Byte}

theorem isBroadcastCode_iff : ∀ code : Byte, isBroadcastCode code = true ↔
    code ∈ [0x21#8, 0x23#8, 0x24#8, 0x28#8, 0x29#8, 0x3F#8, 0x31#8, 0x32#8] := by
  decide

theorem takeBroadcast_of_command (h : decodeCommand code parameters = .command i) :
    s.takeBroadcast code parameters = if isBroadcastCode code = true then (carryOut i s).state else s := by
  simp only [State.takeBroadcast, h]

theorem takeBroadcast_of_none (h : ∀ i, decodeCommand code parameters ≠ .command i) :
    s.takeBroadcast code parameters = s := by
  unfold State.takeBroadcast
  split
  · split
    · rename_i i hi
      exact absurd hi (h i)
    · rfl
    · rfl
  · rfl

/-- A broadcast command frame is taken (R179). -/
theorem judgeFrame_broadcast (hhear : s.port.hearing = .hunting) (hd : Decodes i code parameters)
    (hsum : ((commandBody 15 code parameters check).map (·.toNat)).sum % 256 = 0) :
    s.judgeFrame (syncByte :: commandBody 15 code parameters check) =
      if isBroadcastCode code = true then (carryOut i s).state else s := by
  obtain ⟨hdecode, hcount⟩ := hd
  have hcheck : byteSum ((syncByte :: commandBody 15 code parameters check).drop 1) = 0 :=
    BitVec.eq_of_toNat_eq ((byteSum_toNat _).trans hsum)
  rw [judgeFrame_commandKind hhear hcheck frameKind_command, if_pos frameAddress_command,
    frameParameters_command (parameterCount_le code _ hcount)]
  exact takeBroadcast_of_command hdecode

/-- A reply touches the port only. -/
theorem respond_withPort (code : Byte) {a : Answer} {p : Port} (h : a.state.port = p) :
    { respond code a with port := p } = a.state := by
  subst h
  unfold respond
  split <;> rfl

/-! ## A whole frame by its bytes -/

/-- A frame by its head, its length byte, its body and its check byte (R176). -/
def frameOfBytes (head length : Byte) (body : List Byte) (check : Byte) : List Byte :=
  [0xA5, head, length] ++ body ++ [check]

variable {head length : Byte} {body : List Byte}

theorem frameLength_frameOfBytes : frameLength (frameOfBytes head length body check) = length.toNat := rfl

theorem wholeFrame_frameOfBytes (h1 : 1 ≤ length.toNat) (h200 : length.toNat ≤ 200) (hbody : body.length = length.toNat) :
    WholeFrame (frameOfBytes head length body check) where
  length := by rw [frameLength_frameOfBytes]; simp [frameOfBytes, hbody]
  one_le := h1
  le_max := h200

theorem frameKind_eq_zero_iff : ∀ head : Byte, head.extractLsb' 4 4 = 0 ↔ head.toNat < 16 := by decide

theorem frameAddress_eq_iff {address : BitVec 4} (h : head.toNat < 16) :
    head.extractLsb' 0 4 = address ↔ head.toNat = address.toNat := by
  rw [← BitVec.toNat_inj, BitVec.extractLsb'_toNat, Nat.shiftRight_zero, Nat.mod_eq_of_lt h]

theorem frameParameters_frameOfBytes (hbody : (code :: parameters).length = length.toNat) :
    frameParameters (frameOfBytes head length (code :: parameters) check) = parameters := by
  rw [frameParameters, frameLength_frameOfBytes, ← hbody]
  simp [frameOfBytes]

/-- A whole frame of the command kind with a good check, by its head (R177). -/
theorem judgeFrame_frameOfBytes (hhear : s.port.hearing = .hunting) (hhead : head.toNat < 16)
    (hsum : (([head, length] ++ body ++ [check]).map (·.toNat)).sum % 256 = 0)
    (hbody : body.length = length.toNat) (hsplit : body = code :: parameters) :
    s.judgeFrame (frameOfBytes head length body check) =
      if head.toNat = 15 then s.takeBroadcast code parameters
      else if head.toNat = s.port.address.toNat then s.takeAddressed code parameters
      else s := by
  subst hsplit
  have hcheck : byteSum ((frameOfBytes head length (code :: parameters) check).drop 1) = 0 :=
    BitVec.eq_of_toNat_eq ((byteSum_toNat _).trans hsum)
  have haddress (a : BitVec 4) :
      frameAddress (frameOfBytes head length (code :: parameters) check) = a ↔ head.toNat = a.toNat :=
    frameAddress_eq_iff hhead
  rw [judgeFrame_commandKind hhear hcheck ((frameKind_eq_zero_iff head).2 hhead), frameParameters_frameOfBytes hbody]
  simp only [haddress]
  rfl

/-! ## Commands that are none -/

/-- The command list: each code with its parameter count (R180). -/
def commandCounts : List (Byte × Nat) :=
  [(0x01, 5), (0x02, 2), (0x03, 10), (0x04, 3), (0x05, 2), (0x06, 3), (0x10, 2), (0x11, 3), (0x12, 1), (0x13, 4),
    (0x14, 3), (0x20, 1), (0x21, 37), (0x22, 1), (0x23, 8), (0x24, 2), (0x28, 0), (0x29, 0), (0x30, 0), (0x31, 1),
    (0x32, 1), (0x33, 4), (0x34, 0), (0x3F, 0)]

theorem mem_commandCounts : ∀ code : Byte, ∀ n ∈ parameterCount code.toNat, (code, n) ∈ commandCounts := by decide

theorem parameterCount_of_mem : ∀ entry ∈ commandCounts, parameterCount entry.1.toNat = some entry.2 := by decide

theorem decodeCommand_unknown (h : parameterCount code.toNat = none) :
    decodeCommand code parameters = .unknownCommand := by
  simp only [decodeCommand, h]

/-- A body that is a command has the parameter count of the list (R180). -/
theorem parameterCount_of_decodeCommand (h : decodeCommand code parameters = .command i) :
    parameterCount code.toNat = some parameters.length := by
  obtain ⟨hencode, hwf⟩ := commandEncodingRoundTrip.2.1 code parameters i h
  exact (commandEncodingRoundTrip.1 i code parameters hwf hencode).2

theorem decodeCommand_badLength {n : Nat} (h : parameterCount code.toNat = some n) (hne : parameters.length ≠ n) :
    decodeCommand code parameters = .badLength := by
  cases hc : commandOf code.toNat parameters with
  | none => simp only [decodeCommand, h, hc]
  | some i =>
    have hcount := parameterCount_of_decodeCommand (decodeCommand_eq_command_iff.2 ⟨by rw [h]; rfl, hc⟩)
    exact absurd (Option.some.inj (hcount.symm.trans h)) hne

theorem takeAddressed_unknown (h : decodeCommand code parameters = .unknownCommand) :
    s.takeAddressed code parameters = respond code (refuse s .unknownCommand) := by
  simp only [State.takeAddressed, h]

theorem takeAddressed_badLength (h : decodeCommand code parameters = .badLength) :
    s.takeAddressed code parameters = respond code (refuse s .badLength) := by
  simp only [State.takeAddressed, h]

end Sys2Proof.Machine

open Sys2Proof Sys2Proof.Machine

/-- Settles O50: the frame is judged as a broadcast, which keeps the effect of the command's row and not its reply. -/
theorem broadcastIsSilent : Obligations.BroadcastIsSilent := by
  intro s i code check parameters hrun hhear hreply hwf h body hsum
  have hd := decodes_of_encodeCommand hwf h
  have hwhole := wholeFrame_command (address := 15) (code := code) (check := check) (parameterCount_le code _ hd.2)
  refine ⟨respond code (carryOut i s), (exec_eq_takeCommand h s).trans (takeCommand_eq hrun rfl), ?_⟩
  refine (exec_commandFrameReceived hrun (0xA5 :: body)).trans (congrArg _ ?_)
  rw [respond_withPort code (carryOut_lineKept i s).port]
  refine (hearAll_frame hhear hreply hwhole).trans ((judgeFrame_broadcast hhear hd hsum).trans ?_)
  simp only [isBroadcastCode_iff]

/-- Settles O51: a bad length ends the frame at its third byte; a whole frame is judged by its check, its kind and its
address, and its command by the list. -/
theorem framesAreJudged : Obligations.FramesAreJudged := by
  intro s head length check body hrun hhear hreply fault counts sum
  have hfault : s.lineFault = fault := lineFault_of_hunting hhear
  refine ⟨fun hlength => ?_, fun h1 h200 hbody => ?_⟩
  · rw [exec_commandFrameReceived hrun, ← hfault]
    exact congrArg _ (hearAll_badLength hhear hreply hlength)
  intro frame
  have heard : s.hearAll frame = s.judgeFrame (frameOfBytes head length body check) :=
    hearAll_frame hhear hreply (wholeFrame_frameOfBytes h1 h200 hbody)
  have hsum : (byteSum ((frameOfBytes head length body check).drop 1)).toNat = sum := byteSum_toNat _
  rw [exec_commandFrameReceived hrun, heard]
  refine ⟨fun hbad => ?_, fun hgood hkind => ?_, fun hgood h15 hother => ?_, fun hgood h15 code parameters hsplit hnone => ?_,
    fun hgood h15 hown code parameters hsplit => ⟨fun hunknown => ?_, fun entry hentry hcode hcount => ?_⟩⟩
  · rw [judgeFrame_badCheck fun h => hbad (by rw [← hsum, h]; rfl), hfault]
  · refine congrArg _ (judgeFrame_otherKind hhear (BitVec.eq_of_toNat_eq (hsum.trans hgood)) fun h => ?_)
    have := (frameKind_eq_zero_iff head).1 h
    omega
  · obtain ⟨code, parameters, hsplit⟩ := List.exists_cons_of_length_pos (l := body) (by omega)
    rw [judgeFrame_frameOfBytes hhear (by omega) hgood hbody hsplit, if_neg (by omega), if_neg hother]
  · rw [judgeFrame_frameOfBytes hhear (by omega) hgood hbody hsplit, if_pos h15]
    refine congrArg _ (takeBroadcast_of_none fun i hi => ?_)
    exact hnone _ (mem_commandCounts code _ (parameterCount_of_decodeCommand hi)) rfl rfl
  · rw [judgeFrame_frameOfBytes hhear (by omega) hgood hbody hsplit, if_neg (by omega), if_pos hown]
    refine congrArg _ (takeAddressed_unknown (decodeCommand_unknown (Option.eq_none_iff_forall_not_mem.2 fun n hn => ?_)))
    exact hunknown (List.mem_map.2 ⟨_, mem_commandCounts code n hn, rfl⟩)
  · subst hcode
    rw [judgeFrame_frameOfBytes hhear (by omega) hgood hbody hsplit, if_neg (by omega), if_pos hown]
    exact congrArg _ (takeAddressed_badLength (decodeCommand_badLength (parameterCount_of_mem entry hentry) hcount))
end

section
/-! SUPPORT. Gaps, character faults and overruns (O52, O53). -/

namespace Sys2Proof.Machine

variable {s : State}

/-! ## A part that hears keeps running -/

theorem respond_running (code : Byte) (a : Answer) : (respond code a).running = a.state.running := by
  unfold respond
  split <;> rfl

theorem takeBroadcast_running (s : State) (code : Byte) (parameters : List Byte) :
    (s.takeBroadcast code parameters).running = s.running := by
  unfold State.takeBroadcast
  split
  · split
    · exact (carryOut_lineKept _ s).running
    · rfl
    · rfl
  · rfl

theorem takeAddressed_running (s : State) (code : Byte) (parameters : List Byte) :
    (s.takeAddressed code parameters).running = s.running := by
  unfold State.takeAddressed
  split
  · exact (respond_running _ _).trans (carryOut_lineKept _ s).running
  · exact respond_running _ _
  · exact respond_running _ _

theorem judgeFrame_running (s : State) (bytes : List Byte) : (s.judgeFrame bytes).running = s.running := by
  unfold State.judgeFrame
  split
  · rfl
  split
  · rfl
  split
  · exact takeBroadcast_running _ _ _
  split
  · exact takeAddressed_running _ _ _
  · rfl

theorem hear_running (s : State) (b : Byte) : (s.hear b).running = s.running := by
  unfold State.hear
  split
  · split
    · split <;> rfl
    · rfl
  · split
    · rfl
    · rfl
    · exact judgeFrame_running s _
  · split <;> rfl

theorem hearAll_running (s : State) (bytes : List Byte) : (s.hearAll bytes).running = s.running :=
  List.foldlRecOn bytes State.hear (motive := fun u => u.running = s.running) rfl
    fun u hu b _ => (hear_running u b).trans hu

/-! ## Hunting, and a frame broken off -/

/-- A hunting port passes over bytes without a sync byte (R177). -/
theorem hearAll_of_hunting (hhear : s.port.hearing = .hunting) {bytes : List Byte} (h : ∀ b ∈ bytes, b ≠ syncByte) :
    s.hearAll bytes = s :=
  List.foldlRecOn bytes State.hear (motive := fun u => u = s) rfl
    fun u hu b hb => by rw [hu, State.hear_of_hunting hhear (h b hb)]

theorem breakFrame_of_hunting (h : s.port.hearing = .hunting) : s.breakFrame = s := by
  rw [State.breakFrame, h]

theorem breakFrame_of_assembling {bytes : List Byte} (h : s.port.hearing = .assembling bytes) :
    s.breakFrame = s.lineFault := by
  rw [State.breakFrame, h]

theorem breakFrame_of_discarding {bytes : List Byte} (h : s.port.hearing = .discarding bytes) :
    s.breakFrame = s.setHearing .hunting := by
  rw [State.breakFrame, h]

theorem breakFrame_hearing (s : State) : s.breakFrame.port.hearing = .hunting := by
  cases h : s.port.hearing with
  | hunting => rw [breakFrame_of_hunting h, h]
  | assembling => rw [breakFrame_of_assembling h]; rfl
  | discarding => rw [breakFrame_of_discarding h]; rfl

/-- A byte heard by a hunting port (R177, R178). -/
theorem hear_hunting (hhear : s.port.hearing = .hunting) (b : Byte) :
    s.hear b = if b ≠ syncByte then s else s.gathering [syncByte] := by
  by_cases h : b = syncByte
  · rw [if_neg (not_not.2 h), h, hear_sync hhear]
  · rw [if_pos h, State.hear_of_hunting hhear h]

/-! ## The rows -/

theorem exec_overrun (hrun : s.running = true) (rest : List Byte) :
    exec (.overrun rest) s = .next (if s.port.reply = none then s else s.hearAll (syncByte :: rest)) := by
  refine (whileRunning_of_running hrun fun s => if s.isBusy then s.hearAll (syncByte :: rest) else s).trans ?_
  cases h : s.port.reply <;> simp [State.isBusy, h]

/-- An overrun frame that the row OVERRUN gives from its sync byte to its end (R178). -/
theorem exec_overrun_frame (hrun : s.running = true) (hhear : s.port.hearing = .hunting) (hbusy : s.port.reply ≠ none)
    {rest : List Byte} {last : Byte} (hpart : frameProgress (syncByte :: rest) = .more)
    (hend : frameProgress (syncByte :: rest ++ [last]) ≠ .more) :
    exec (.overrun (rest ++ [last])) s = .next s.countOverrun := by
  rw [exec_overrun hrun, if_neg hbusy]
  exact congrArg _ (hearAll_overrun hhear hbusy hpart hend)

end Sys2Proof.Machine

open Sys2Proof Sys2Proof.Machine

/-- Settles O52: the bytes heard leave a port that hunts, assembles or discards, and each has its end by a gap or a
character fault. -/
theorem gapsAndCharacterFaults : Obligations.GapsAndCharacterFaults := by
  intro s heard next hrun
  refine ⟨s.hearAll heard, (s.hearAll heard).breakFrame, exec_commandFrameReceived hrun heard,
    whileRunning_of_running hrun fun s => (s.hearAll heard).breakFrame, fun hhear hno => hearAll_of_hunting hhear hno,
    fun hhear hsync => ?_,
    fun more => ?_, breakFrame_of_hunting, fun _ => breakFrame_of_discarding, fun _ => breakFrame_of_assembling, ?_⟩
  · intro length hpart
    obtain ⟨rest, rfl⟩ := List.head?_eq_some_iff.1 hsync
    exact hearAll_part hhear (frameProgress_eq_more_iff.2 hpart)
  · rw [exec_commandFrameReceived hrun, exec_commandFrameReceived ((hearAll_running s heard).trans hrun),
      State.hearAll_append]
  · refine (whileRunning_of_running hrun fun s => (s.hearAll heard).breakFrame.hear next).trans (congrArg _ ?_)
    exact hear_hunting (breakFrame_hearing _) next

/-- Settles O53: a frame heard while the unit is busy is counted at its sync byte, and discarded to its end. -/
theorem overrunAndReplySent : Obligations.OverrunAndReplySent := by
  intro s head length check body hrun
  refine ⟨whileRunning_of_running hrun fun s => { s with port := { s.port with reply := none } },
    fun hidle rest => by rw [exec_overrun hrun, if_pos hidle],
    fun hbusy rest => by rw [exec_overrun hrun, if_neg hbusy]; exact (exec_commandFrameReceived hrun _).symm,
    fun hbusy hhear => ⟨fun hlength => ?_, fun h1 h200 hbody => ?_⟩⟩
  · refine exec_overrun_frame hrun hhear hbusy (rest := [head]) rfl ?_
    rw [show syncByte :: [head] ++ [length] = [syncByte, head, length] from rfl, frameProgress_header hlength]
    exact FrameProgress.noConfusion
  · have hwhole : WholeFrame (frameOfBytes head length body check) := wholeFrame_frameOfBytes h1 h200 hbody
    refine exec_overrun_frame hrun hhear hbusy (frameProgress_of_prefix hwhole (List.cons_ne_nil _ _)) ?_
    rw [show syncByte :: ([head, length] ++ body) ++ [check] = frameOfBytes head length body check from rfl,
      frameProgress_of_whole hwhole]
    exact FrameProgress.noConfusion
end

section
/-! SUPPORT. Events, tallies, IDENT and RESTART (O45 to O47). -/

namespace Sys2Proof.Machine

variable {s : State}

/-! ## The attention line -/

/-- Two sets of event kinds share a kind (R183). -/
theorem and_ne_zero_iff (a b : EventSet) : (a &&& b != 0) = true ↔
    ∃ k < 8, a.getLsbD k = true ∧ b.getLsbD k = true := by
  rw [bne_iff_ne, ne_eq, BitVec.eq_of_getLsbD_eq_iff]
  simp

theorem attentionDriven_iff : s.attentionDriven = true ↔
    s.powered = true ∧ s.resetHeld = false ∧ ∃ k < 8, s.summary.getLsbD k = true ∧ s.mask.getLsbD k = true := by
  rw [State.attentionDriven, Bool.and_eq_true, running_iff, and_ne_zero_iff, and_assoc]

/-! ## TALLY -/

variable {selector clear : Byte} {id : Identity}

theorem PartTallies.bytes_eq (t : PartTallies) : t.bytes = twoBytes t.attachRefusals ++ twoBytes t.lineFaults ++
    twoBytes t.overruns ++ twoBytes t.inconclusiveSearches ++ twoBytes t.grants := by
  simp only [PartTallies.bytes, natBytes2_eq]

theorem doTally_unreadable (h : parseBool selector = none ∨ parseBool clear = none) :
    doTally selector id clear s = refuse s .badField := by
  unfold doTally
  rcases h with h | h
  · rw [h]
  · rw [h]
    cases parseBool selector with
    | none => rfl
    | some b => cases b <;> rfl

/-- A record's tallies cleared on request (R185). -/
theorem update_clearTallies (hs : s.TableSound) {r : Record} (hr : s.recordOf id = some r)
    (hclear : clear = 0x00 ∨ clear = 0x01) : s.update id (clearTallies (decide (clear = 0x01))) =
      if clear = 0x00 then s
      else { s with records := s.records.map fun q => if q.identity = id then { r with tallies := {} } else q } := by
  rcases hclear with rfl | rfl
  · exact update_eq_self fun _ _ _ => rfl
  · exact update_eq_const hs hr _

end Sys2Proof.Machine

open Sys2Proof Sys2Proof.Machine

/-- Settles O45. -/
theorem eventCommands : Obligations.EventCommands := by
  refine ⟨fun s kinds hrun => ⟨takeCommand_eq hrun rfl, ⟨s.summary &&& ~~~kinds, fun k hk => ?_, takeCommand_eq hrun rfl⟩,
    takeCommand_eq hrun rfl⟩, fun s => attentionDriven_iff⟩
  simp [hk]

/-- Settles O46: the checks of TALLY in their order, the record's tallies, the part's, and IDENT. -/
theorem tallyAndIdent : Obligations.TallyAndIdent := by
  refine fun s selector clear id hrun hs => ⟨fun hbad => takeCommand_eq hrun (doTally_unreadable ?_), fun hclear => ?_,
    takeCommand_eq hrun (by rw [doIdent, natBytes2_eq]; rfl)⟩
  · exact hbad.imp (fun h => parseBool_of_other h.1 h.2) fun h => parseBool_of_other h.1 h.2
  have hc := parseBool_gainReset hclear
  refine ⟨fun hnone => takeCommand_eq hrun ?_, fun r hr => takeCommand_eq hrun ?_, takeCommand_eq hrun ?_⟩
  · simp only [doTally, show parseBool 0x00 = some false from rfl, hc, hnone]
    rfl
  · simp only [doTally, show parseBool 0x00 = some false from rfl, hc, hr, update_clearTallies hs hr hclear,
      Tallies.bytes_eq]
  · simp only [doTally, show parseBool 0x01 = some true from rfl, hc, PartTallies.bytes_eq]
    rcases hclear with rfl | rfl <;> rfl

/-- Settles O47. -/
theorem restartClears : Obligations.RestartClears := fun _ hrun => takeCommand_eq hrun rfl
end
